-- ==== Sys2Proof/Word.lean ====
section
/-! DEFINITION. The word types of the block (00_scope.md rules R2, R3): every quantity is unsigned, bit 0 is the least
significant bit, and a slice `v[hi:lo]` is `v.extractLsb' lo (hi - lo + 1)`. -/

namespace Sys2Proof

/-- One byte of the container (10_state.md rule R12). -/
abbrev Byte := BitVec 8

/-- One nibble of the word, `NIBBLE_W` = 4 (rule R2). -/
abbrev Nibble := BitVec 4

/-- The instruction word, `WORD_W` = 12 (rule R2). -/
abbrev Word12 := BitVec 12

/-- The container, `CONTAINER_W` = 16 (rule R2). -/
abbrev Container := BitVec 16

/-- A word-address, `ADDR_W` = 32 (rule R2, decision D6): it counts 12-bit words, never bytes. -/
abbrev WordAddr := BitVec 32

/-- A page value, `PAGE_VALUE_W` = 5: the bank bit in bit 4, the page nibble in bits 3:0 (rules R2, R28). -/
abbrev PageValue := BitVec 5

end Sys2Proof
end

