-- ==== Sys2Proof/Output.lean ====
section
/-! DEFINITION. The types that cross the block's boundary: the output `DecodedInstruction` and its parts (10_state.md
rules R17 to R25), and the port list of rule R39, which is another presentation of the same inputs and outputs. -/

namespace Sys2Proof

/-- The fixed enumeration of 47 mnemonics, `UNKNOWN` first and then the 46 names in the order of rule R18. -/
inductive Mnemonic where
  | UNKNOWN
  | ACPX | ACPY | ADC | ADD | AND | CALL | CALZ | CP | DEC | DI | EI | FAN | HALT | INC | JP | JPBA | LBPX | LD | LDPX
  | LDPY | NOP5 | NOP7 | NOT | OR | POP | PSET | PUSH | RCF | RDF | RET | RETD | RETS | RLC | RRC | RST | RZF | SBC
  | SCF | SCPX | SCPY | SDF | SET | SLP | SUB | SZF | XOR
  deriving DecidableEq, Repr

/-- The two index registers, as memory pointers (rule R20). -/
inductive IndexName where
  | X | Y
  deriving DecidableEq, Repr

/-- The thirty register names of rule R20; `M n` is one of the sixteen names `M0` to `MF`. The block holds none of them. -/
inductive RegName where
  | A | B | X | Y | XP | XH | XL | YP | YH | YL | SP | SPH | SPL | F
  | M (n : Nibble)
  deriving DecidableEq, Repr

/-- The four condition names of rule R21. -/
inductive CondName where
  | C | NC | Z | NZ
  deriving DecidableEq, Repr

/-- A tagged operand with exactly five tags (rule R19). -/
inductive Operand where
  /-- a small numeric literal, 8 bits -/
  | immediate (v : Byte)
  /-- a step in word units, 16 bits -/
  | address (a : BitVec 16)
  | conditionName (c : CondName)
  | register (n : RegName)
  | registerIndirect (n : IndexName)
  deriving DecidableEq, Repr

/-- The six kinds of branch edge (rule R23). -/
inductive EdgeKind where
  | unconditional | trueBranch | falseBranch | indirect | callDestination | functionReturn
  deriving DecidableEq, Repr

/-- One possible successor, with a target where it is statically known (rule R23). -/
structure BranchEdge where
  kind   : EdgeKind
  target : Option WordAddr
  deriving DecidableEq, Repr

/-- The one annotation of the block (rule R25, decision D11). -/
inductive Comment where
  | skipOnReturn
  deriving DecidableEq, Repr

/-- The output of one call (rule R17). -/
structure DecodedInstruction where
  mnemonic    : Mnemonic
  operand1    : Option Operand
  operand2    : Option Operand
  branchEdges : List BranchEdge
  comment     : Option Comment
  deriving DecidableEq, Repr

/-- The block's one error: the byte sequence has length zero (60_exceptions.md rules R270, R271). No payload. -/
inductive DecodeError where
  | invalidInput
  deriving DecidableEq, Repr

/-! ### The ports of rule R39 -/

/-- `in_nbytes`: the number of valid bytes, saturating at two. Its codes are 0, 1, 2; code 3 is never driven (log
entry 15). -/
inductive NBytes where
  | zero | one | twoOrMore
  deriving DecidableEq, Repr

/-- The input ports of rule R39. -/
structure PortIn where
  nbytes    : NBytes
  container : Container
  address   : WordAddr
  pageRec   : PageValue
  deriving DecidableEq, Repr

/-- An operand on the ports: a 3-bit tag and a 16-bit payload (rule R39). -/
structure OperandPort where
  tag     : BitVec 3
  payload : BitVec 16
  deriving DecidableEq, Repr, Inhabited

/-- A branch edge on the ports: kind, target-present bit, target (rule R39). -/
structure EdgePort where
  kind    : BitVec 3
  present : Bool
  target  : WordAddr
  deriving DecidableEq, Repr, Inhabited

/-- The output ports of rule R39. -/
structure PortOut where
  invalidInput : Bool
  mnemonic     : BitVec 6
  op1          : OperandPort
  op2          : OperandPort
  nEdges       : BitVec 2
  edge0        : EdgePort
  edge1        : EdgePort
  comment      : Bool
  deriving DecidableEq, Repr, Inhabited

end Sys2Proof
end

