-- ==== Sys2Proof/Config.lean ====
section
/-! DEFINITION. What an implementation fixes (00_scope.md rule R2) and the values the spec leaves free. The rule list
`RULES`, the third open parameter, stands in Decode.lean beside the decoder that takes it as an argument. -/

namespace Sys2Proof

/-- Where the page nibble of a `CALL` target comes from: the parameter `CALL_PAGE_SOURCE` (rule R101, decision D7). -/
inductive CallPageSource where
  | address | pageRec
  deriving DecidableEq, Repr

/-- The open parameters that shape a target (rule R2): `CALL_PAGE_SOURCE` and `CALZ_PAGE`. -/
structure Params where
  callPageSource : CallPageSource
  calzPage       : Nibble
  deriving DecidableEq, Repr

namespace Config

/-- The values the spec decides: `CALL_PAGE_SOURCE = address` (decision D7) and `CALZ_PAGE = 0` (decision D8). -/
def params : Params := ⟨.address, 0⟩

/-- `DEFAULT_PAGE_VALUE`: bank 0, page 1 (rules R2, R32). -/
def defaultPageValue : PageValue := 0x01

/-- The `address` field of the default page record, which the spec leaves unspecified (10_state.md rule R32,
91_not_in_source.md N11). A free value: it has no body (log entry 9). -/
opaque defaultRecordAddress : WordAddr

/-- The port bits that carry no meaning (10_state.md rule R39, 93_implementation_defined.md U8): for each input, some
values of them. A free value: it has no body (log entry 10). -/
opaque freePortOut : PortIn → PortOut

end Config

end Sys2Proof
end

