-- ==== Sys2Proof/Syntax.lean ====
section
/-! DEFINITION. The instructions: one constructor for each of the 113 rows of spec/opcode_table.json, in the priority
order of 30_encoding.md rule R70, with the fields of the row as arguments; and the type of a row of the rule list. -/

namespace Sys2Proof

/-- The two-bit register selector of 30_encoding.md rule R63: `A`, `B`, `MX`, `MY` (codes 0 to 3). -/
inductive Sel where
  | a | b | mx | my
  deriving DecidableEq, Repr

/-- One constructor per row of the opcode table. A constructor is named after its form: `ldRI` is `LD r,i`, `ldXPr` is
`LD XP,r`, `ldRXP` is `LD r,XP`. -/
inductive Instr where
  /-- `RLC A`, rule R247 -/
  | rlcA
  /-- `RLC B`, rule R247 -/
  | rlcB
  /-- `RLC MX`, rule R247 -/
  | rlcMX
  /-- `RLC MY`, rule R247 -/
  | rlcMY
  /-- `INC X`, rule R130 -/
  | incX
  /-- `INC Y`, rule R131 -/
  | incY
  /-- `SCF`, rule R182 -/
  | scf
  /-- `SZF`, rule R184 -/
  | szf
  /-- `SDF`, rule R186 -/
  | sdf
  /-- `EI`, rule R188 -/
  | ei
  /-- `DI`, rule R189 -/
  | di
  /-- `RDF`, rule R187 -/
  | rdf
  /-- `RZF`, rule R185 -/
  | rzf
  /-- `RCF`, rule R183 -/
  | rcf
  /-- `PUSH XP`, rule R203 -/
  | pushXP
  /-- `PUSH XH`, rule R204 -/
  | pushXH
  /-- `PUSH XL`, rule R205 -/
  | pushXL
  /-- `PUSH YP`, rule R206 -/
  | pushYP
  /-- `PUSH YH`, rule R207 -/
  | pushYH
  /-- `PUSH YL`, rule R208 -/
  | pushYL
  /-- `PUSH F`, rule R209 -/
  | pushF
  /-- `DEC SP`, rule R201 -/
  | decSP
  /-- `POP XP`, rule R211 -/
  | popXP
  /-- `POP XH`, rule R212 -/
  | popXH
  /-- `POP XL`, rule R213 -/
  | popXL
  /-- `POP YP`, rule R214 -/
  | popYP
  /-- `POP YH`, rule R215 -/
  | popYH
  /-- `POP YL`, rule R216 -/
  | popYL
  /-- `POP F`, rule R217 -/
  | popF
  /-- `INC SP`, rule R200 -/
  | incSP
  /-- `RETS`, rule R114 -/
  | rets
  /-- `RET`, rule R113 -/
  | ret
  /-- `JPBA`, rule R110 -/
  | jpba
  /-- `HALT`, rule R122 -/
  | halt
  /-- `SLP`, rule R123 -/
  | slp
  /-- `NOP5`, rule R120 -/
  | nop5
  /-- `NOP7`, rule R121 -/
  | nop7
  /-- `NOT r`, rule R255 -/
  | notR (r : Sel)
  /-- `LD XP,r`, rule R134 -/
  | ldXPr (r : Sel)
  /-- `LD XH,r`, rule R135 -/
  | ldXHr (r : Sel)
  /-- `LD XL,r`, rule R136 -/
  | ldXLr (r : Sel)
  /-- `RRC r`, rule R248 -/
  | rrcR (r : Sel)
  /-- `LD YP,r`, rule R137 -/
  | ldYPr (r : Sel)
  /-- `LD YH,r`, rule R138 -/
  | ldYHr (r : Sel)
  /-- `LD YL,r`, rule R139 -/
  | ldYLr (r : Sel)
  /-- `LD r,XP`, rule R140 -/
  | ldRXP (r : Sel)
  /-- `LD r,XH`, rule R141 -/
  | ldRXH (r : Sel)
  /-- `LD r,XL`, rule R142 -/
  | ldRXL (r : Sel)
  /-- `LD r,YP`, rule R143 -/
  | ldRYP (r : Sel)
  /-- `LD r,YH`, rule R144 -/
  | ldRYH (r : Sel)
  /-- `LD r,YL`, rule R145 -/
  | ldRYL (r : Sel)
  /-- `ACPX MX,r`, rule R251 -/
  | acpx (r : Sel)
  /-- `ACPY MY,r`, rule R252 -/
  | acpy (r : Sel)
  /-- `SCPX MX,r`, rule R253 -/
  | scpx (r : Sel)
  /-- `SCPY MY,r`, rule R254 -/
  | scpy (r : Sel)
  /-- `PUSH r`, rule R202 -/
  | pushR (r : Sel)
  /-- `POP r`, rule R210 -/
  | popR (r : Sel)
  /-- `LD SPH,r`, rule R218 -/
  | ldSPHr (r : Sel)
  /-- `LD r,SPH`, rule R220 -/
  | ldRSPH (r : Sel)
  /-- `LD SPL,r`, rule R219 -/
  | ldSPLr (r : Sel)
  /-- `LD r,SPL`, rule R221 -/
  | ldRSPL (r : Sel)
  /-- `ADC XH,i`, rule R146 -/
  | adcXH (imm : Nibble)
  /-- `ADC XL,i`, rule R147 -/
  | adcXL (imm : Nibble)
  /-- `ADC YH,i`, rule R148 -/
  | adcYH (imm : Nibble)
  /-- `ADC YL,i`, rule R149 -/
  | adcYL (imm : Nibble)
  /-- `CP XH,i`, rule R150 -/
  | cpXH (imm : Nibble)
  /-- `CP XL,i`, rule R151 -/
  | cpXL (imm : Nibble)
  /-- `CP YH,i`, rule R152 -/
  | cpYH (imm : Nibble)
  /-- `CP YL,i`, rule R153 -/
  | cpYL (imm : Nibble)
  /-- `ADD r,q`, rule R231 -/
  | addRQ (r : Sel) (q : Sel)
  /-- `ADC r,q`, rule R233 -/
  | adcRQ (r : Sel) (q : Sel)
  /-- `SUB r,q`, rule R234 -/
  | subRQ (r : Sel) (q : Sel)
  /-- `SBC r,q`, rule R236 -/
  | sbcRQ (r : Sel) (q : Sel)
  /-- `AND r,q`, rule R238 -/
  | andRQ (r : Sel) (q : Sel)
  /-- `OR r,q`, rule R240 -/
  | orRQ (r : Sel) (q : Sel)
  /-- `XOR r,q`, rule R242 -/
  | xorRQ (r : Sel) (q : Sel)
  /-- `LDPX MX,i`, rule R166 -/
  | ldpxMX (imm : Nibble)
  /-- `LDPY MY,i`, rule R168 -/
  | ldpyMY (imm : Nibble)
  /-- `LD r,q`, rule R161 -/
  | ldRQ (r : Sel) (q : Sel)
  /-- `LDPX r,q`, rule R167 -/
  | ldpxRQ (r : Sel) (q : Sel)
  /-- `LDPY r,q`, rule R169 -/
  | ldpyRQ (r : Sel) (q : Sel)
  /-- `CP r,q`, rule R244 -/
  | cpRQ (r : Sel) (q : Sel)
  /-- `FAN r,q`, rule R246 -/
  | fanRQ (r : Sel) (q : Sel)
  /-- `SET F,i`, rule R180 -/
  | setF (imm : Nibble)
  /-- `RST F,i`, rule R181 -/
  | rstF (imm : Nibble)
  /-- `INC Mn`, rule R249 -/
  | incMn (n : Nibble)
  /-- `DEC Mn`, rule R250 -/
  | decMn (n : Nibble)
  /-- `LD Mn,A`, rule R164 -/
  | ldMnA (n : Nibble)
  /-- `LD Mn,B`, rule R165 -/
  | ldMnB (n : Nibble)
  /-- `LD A,Mn`, rule R162 -/
  | ldAMn (n : Nibble)
  /-- `LD B,Mn`, rule R163 -/
  | ldBMn (n : Nibble)
  /-- `PSET p`, rule R104 -/
  | pset (p : BitVec 5)
  /-- `ADD r,i`, rule R230 -/
  | addRI (r : Sel) (imm : Nibble)
  /-- `ADC r,i`, rule R232 -/
  | adcRI (r : Sel) (imm : Nibble)
  /-- `AND r,i`, rule R237 -/
  | andRI (r : Sel) (imm : Nibble)
  /-- `OR r,i`, rule R239 -/
  | orRI (r : Sel) (imm : Nibble)
  /-- `XOR r,i`, rule R241 -/
  | xorRI (r : Sel) (imm : Nibble)
  /-- `SBC r,i`, rule R235 -/
  | sbcRI (r : Sel) (imm : Nibble)
  /-- `FAN r,i`, rule R245 -/
  | fanRI (r : Sel) (imm : Nibble)
  /-- `CP r,i`, rule R243 -/
  | cpRI (r : Sel) (imm : Nibble)
  /-- `LD r,i`, rule R160 -/
  | ldRI (r : Sel) (imm : Nibble)
  /-- `JP s`, rule R105 -/
  | jp (step : Byte)
  /-- `RETD l`, rule R115 -/
  | retd (l : Byte)
  /-- `JP C,s`, rule R106 -/
  | jpC (step : Byte)
  /-- `JP NC,s`, rule R107 -/
  | jpNC (step : Byte)
  /-- `CALL s`, rule R111 -/
  | call (step : Byte)
  /-- `CALZ s`, rule R112 -/
  | calz (step : Byte)
  /-- `JP Z,s`, rule R108 -/
  | jpZ (step : Byte)
  /-- `JP NZ,s`, rule R109 -/
  | jpNZ (step : Byte)
  /-- `LD Y,y`, rule R133 -/
  | ldY (y : Byte)
  /-- `LBPX MX,l`, rule R170 -/
  | lbpx (l : Byte)
  /-- `LD X,x`, rule R132 -/
  | ldX (x : Byte)
  /-- `UNKNOWN`, rule R80 -/
  | unknown (w : Word12)
  deriving DecidableEq, Repr

/-! ### The columns of a row of the rule list (30_encoding.md rule R70) -/

/-- The two-bit sub-fields of 10_state.md rule R16. -/
inductive SelField where
  | sel54 | sel32 | sel10
  deriving DecidableEq, Repr

/-- The fields an immediate is taken from (30_encoding.md rule R64). -/
inductive ImmField where
  | lower | imm5 | combinedLow8
  deriving DecidableEq, Repr

/-- The operand builders of rules R63 to R66. -/
inductive OperandBuilder where
  | rq (f : SelField)
  | imm (f : ImmField)
  | addr
  | reg (n : RegName)
  | ind (n : IndexName)
  | cond (c : CondName)
  | mn
  deriving DecidableEq, Repr

/-- The edge classes of 10_state.md rule R23. -/
inductive EdgeClass where
  | none | jp | jpcc | call | calz | indirect | ret
  deriving DecidableEq, Repr

/-- The columns of a row of rule R70 that say which words it matches and what the block outputs for them. -/
structure RowColumns where
  prio     : Nat
  form     : String
  mask     : Word12
  mtch     : Word12
  mnemonic : Mnemonic
  operand1 : Option OperandBuilder
  operand2 : Option OperandBuilder
  edges    : EdgeClass
  comment  : Option Comment
  deriving DecidableEq, Repr

/-- One row of the rule list: its columns, and the instruction that a word it matches stands for. -/
structure Row extends RowColumns where
  build : Word12 → Instr

end Sys2Proof
end

