-- ==== Sys2Proof/WellFormed.lean ====
section
/-! DEFINITION. Which instruction terms stand for a word that reaches their row. The fields are bounded by their types;
what is left to check is that no earlier row takes the word (30_encoding.md rule R71), and that an `UNKNOWN` carries one
of the unmatched words (rule R81). -/

namespace Sys2Proof

/-- The 73 words of the table of rule R81, range by range. -/
def unmatchedRanges : List (Nat × Nat) :=
  [(0xAF1, 0xAF4), (0xAF6, 0xAF9), (0xAFB, 0xAFE), (0xE9C, 0xE9F), (0xEAC, 0xEAF), (0xEBC, 0xEBF), (0xED0, 0xEDF),
   (0xF20, 0xF27), (0xF30, 0xF37), (0xFCC, 0xFCF), (0xFDC, 0xFDD), (0xFE9, 0xFEF), (0xFFA, 0xFFA), (0xFFC, 0xFFE)]

/-- The word is one of the unmatched words of rule R81. -/
def unmatched (w : Word12) : Bool :=
  unmatchedRanges.any fun r => r.1 ≤ w.toNat && w.toNat ≤ r.2

/-- The term's word reaches its row: `SET F,i` and `RST F,i` without the masks of their aliases, `XOR r,i` without
`i = 0xF`, `LDPX` and `LDPY` `r,q` without `A,A` (rule R71), `UNKNOWN` with an unmatched word (rule R81). -/
def Instr.wellFormed : Instr → Bool
  | .setF imm => !(imm == 0x1 || imm == 0x2 || imm == 0x4 || imm == 0x8)
  | .rstF imm => !(imm == 0xE || imm == 0xD || imm == 0xB || imm == 0x7)
  | .xorRI _ imm => !(imm == 0xF)
  | .ldpxRQ r q => !(r == .a && q == .a)
  | .ldpyRQ r q => !(r == .a && q == .a)
  | .unknown w => unmatched w
  | .rlcA | .rlcB | .rlcMX | .rlcMY | .incX | .incY | .scf | .szf | .sdf | .ei | .di | .rdf | .rzf | .rcf | .pushXP
  | .pushXH | .pushXL | .pushYP | .pushYH | .pushYL | .pushF | .decSP | .popXP | .popXH | .popXL | .popYP | .popYH
  | .popYL | .popF | .incSP | .rets | .ret | .jpba | .halt | .slp | .nop5 | .nop7 | .notR _ | .ldXPr _ | .ldXHr _
  | .ldXLr _ | .rrcR _ | .ldYPr _ | .ldYHr _ | .ldYLr _ | .ldRXP _ | .ldRXH _ | .ldRXL _ | .ldRYP _ | .ldRYH _
  | .ldRYL _ | .acpx _ | .acpy _ | .scpx _ | .scpy _ | .pushR _ | .popR _ | .ldSPHr _ | .ldRSPH _ | .ldSPLr _
  | .ldRSPL _ | .adcXH _ | .adcXL _ | .adcYH _ | .adcYL _ | .cpXH _ | .cpXL _ | .cpYH _ | .cpYL _ | .addRQ _ _
  | .adcRQ _ _ | .subRQ _ _ | .sbcRQ _ _ | .andRQ _ _ | .orRQ _ _ | .xorRQ _ _ | .ldpxMX _ | .ldpyMY _ | .ldRQ _ _
  | .cpRQ _ _ | .fanRQ _ _ | .incMn _ | .decMn _ | .ldMnA _ | .ldMnB _ | .ldAMn _ | .ldBMn _ | .pset _ | .addRI _ _
  | .adcRI _ _ | .andRI _ _ | .orRI _ _ | .sbcRI _ _ | .fanRI _ _ | .cpRI _ _ | .ldRI _ _ | .jp _ | .retd _
  | .jpC _ | .jpNC _ | .call _ | .calz _ | .jpZ _ | .jpNZ _ | .ldY _ | .lbpx _ | .ldX _ => true

end Sys2Proof
end

