-- ==== Sys2Proof/Decode.lean ====
section
/-! DEFINITION. The decoder and, after it, the encoder. The BitField View (10_state.md rules R13 to R16) takes bytes to a
12-bit word and its fields; the Opcode Decoder (30_encoding.md rules R67 to R70, R80) takes the word to an instruction
by the first row of the rule list that matches. The nibble table of rule R72 stands beside it as a second form. -/

namespace Sys2Proof

/-! ### BitField View -/

/-- Container normalisation `of(bytes)` (rule R13): empty is the error, one byte is zero-extended on the high side, of
more than two bytes only the last two count. -/
def containerOf : List Byte → Except DecodeError Container
  | [] => .error .invalidInput
  | [b1] => .ok (0x00#8 ++ b1)
  | [b0, b1] => .ok (b0 ++ b1)
  | _ :: b :: b' :: rest => containerOf (b :: b' :: rest)

/-- The 12-bit word is the low 12 bits of the container; bits 15:12 are read by no rule (rule R14). -/
def rawWord (c : Container) : Word12 := c.extractLsb' 0 12

/-- Bytes to word: rules R13 and R14 in the order of 60_exceptions.md rule R275. -/
def wordOf (bytes : List Byte) : Except DecodeError Word12 :=
  match containerOf bytes with
  | .error e => .error e
  | .ok c => .ok (rawWord c)

/-- `upper = w[11:8]` (rule R15). -/
def upper (w : Word12) : Nibble := w.extractLsb' 8 4
/-- `middle = w[7:4]` (rule R15). -/
def middle (w : Word12) : Nibble := w.extractLsb' 4 4
/-- `lower = w[3:0]` (rule R15). -/
def lower (w : Word12) : Nibble := w.extractLsb' 0 4
/-- `combined_low8 = w[7:0]` (rule R15). -/
def combinedLow8 (w : Word12) : Byte := w.extractLsb' 0 8
/-- `imm5 = w[4:0]` (rule R15). -/
def imm5 (w : Word12) : PageValue := w.extractLsb' 0 5
/-- `sel54 = w[5:4]` (rule R16). -/
def sel54 (w : Word12) : BitVec 2 := w.extractLsb' 4 2
/-- `sel32 = w[3:2]` (rule R16). -/
def sel32 (w : Word12) : BitVec 2 := w.extractLsb' 2 2
/-- `sel10 = w[1:0]` (rule R16). -/
def sel10 (w : Word12) : BitVec 2 := w.extractLsb' 0 2

/-- The five named fields of the BitField View (rule R15). -/
structure BitFieldView where
  upper        : Nibble
  middle       : Nibble
  lower        : Nibble
  combinedLow8 : Byte
  imm5         : PageValue
  deriving DecidableEq, Repr

/-- The view of a word: a value with no identity beyond it (rule R15). -/
def view (w : Word12) : BitFieldView := ⟨upper w, middle w, lower w, combinedLow8 w, imm5 w⟩

/-- The selector a two-bit field stands for (30_encoding.md rule R63). -/
def Sel.ofBits (b : BitVec 2) : Sel :=
  match b.toNat with
  | 0 => .a
  | 1 => .b
  | 2 => .mx
  | _ => .my

/-- The code of a selector (rule R63). -/
def Sel.bits : Sel → BitVec 2
  | .a => 0
  | .b => 1
  | .mx => 2
  | .my => 3

/-- The selector in `w[5:4]`. -/
def selAt54 (w : Word12) : Sel := Sel.ofBits (sel54 w)
/-- The selector in `w[3:2]`. -/
def selAt32 (w : Word12) : Sel := Sel.ofBits (sel32 w)
/-- The selector in `w[1:0]`. -/
def selAt10 (w : Word12) : Sel := Sel.ofBits (sel10 w)

/-! ### The rule list -/

/-- Rule R70: the rows of mask 0xFFF (format FIX), priorities 1 to 37. -/
def rulesFull : List Row :=
  [
   ⟨⟨1, "RLC A", 0xFFF, 0xAF0, .RLC, some (.rq .sel10), none, .none, none⟩, fun _ => .rlcA⟩,
   ⟨⟨2, "RLC B", 0xFFF, 0xAF5, .RLC, some (.rq .sel10), none, .none, none⟩, fun _ => .rlcB⟩,
   ⟨⟨3, "RLC MX", 0xFFF, 0xAFA, .RLC, some (.rq .sel10), none, .none, none⟩, fun _ => .rlcMX⟩,
   ⟨⟨4, "RLC MY", 0xFFF, 0xAFF, .RLC, some (.rq .sel10), none, .none, none⟩, fun _ => .rlcMY⟩,
   ⟨⟨5, "INC X", 0xFFF, 0xEE0, .INC, some (.reg .X), none, .none, none⟩, fun _ => .incX⟩,
   ⟨⟨6, "INC Y", 0xFFF, 0xEF0, .INC, some (.reg .Y), none, .none, none⟩, fun _ => .incY⟩,
   ⟨⟨7, "SCF", 0xFFF, 0xF41, .SCF, none, none, .none, none⟩, fun _ => .scf⟩,
   ⟨⟨8, "SZF", 0xFFF, 0xF42, .SZF, none, none, .none, none⟩, fun _ => .szf⟩,
   ⟨⟨9, "SDF", 0xFFF, 0xF44, .SDF, none, none, .none, none⟩, fun _ => .sdf⟩,
   ⟨⟨10, "EI", 0xFFF, 0xF48, .EI, none, none, .none, none⟩, fun _ => .ei⟩,
   ⟨⟨11, "DI", 0xFFF, 0xF57, .DI, none, none, .none, none⟩, fun _ => .di⟩,
   ⟨⟨12, "RDF", 0xFFF, 0xF5B, .RDF, none, none, .none, none⟩, fun _ => .rdf⟩,
   ⟨⟨13, "RZF", 0xFFF, 0xF5D, .RZF, none, none, .none, none⟩, fun _ => .rzf⟩,
   ⟨⟨14, "RCF", 0xFFF, 0xF5E, .RCF, none, none, .none, none⟩, fun _ => .rcf⟩,
   ⟨⟨15, "PUSH XP", 0xFFF, 0xFC4, .PUSH, some (.reg .XP), none, .none, none⟩, fun _ => .pushXP⟩,
   ⟨⟨16, "PUSH XH", 0xFFF, 0xFC5, .PUSH, some (.reg .XH), none, .none, none⟩, fun _ => .pushXH⟩,
   ⟨⟨17, "PUSH XL", 0xFFF, 0xFC6, .PUSH, some (.reg .XL), none, .none, none⟩, fun _ => .pushXL⟩,
   ⟨⟨18, "PUSH YP", 0xFFF, 0xFC7, .PUSH, some (.reg .YP), none, .none, none⟩, fun _ => .pushYP⟩,
   ⟨⟨19, "PUSH YH", 0xFFF, 0xFC8, .PUSH, some (.reg .YH), none, .none, none⟩, fun _ => .pushYH⟩,
   ⟨⟨20, "PUSH YL", 0xFFF, 0xFC9, .PUSH, some (.reg .YL), none, .none, none⟩, fun _ => .pushYL⟩,
   ⟨⟨21, "PUSH F", 0xFFF, 0xFCA, .PUSH, some (.reg .F), none, .none, none⟩, fun _ => .pushF⟩,
   ⟨⟨22, "DEC SP", 0xFFF, 0xFCB, .DEC, some (.reg .SP), none, .none, none⟩, fun _ => .decSP⟩,
   ⟨⟨23, "POP XP", 0xFFF, 0xFD4, .POP, some (.reg .XP), none, .none, none⟩, fun _ => .popXP⟩,
   ⟨⟨24, "POP XH", 0xFFF, 0xFD5, .POP, some (.reg .XH), none, .none, none⟩, fun _ => .popXH⟩,
   ⟨⟨25, "POP XL", 0xFFF, 0xFD6, .POP, some (.reg .XL), none, .none, none⟩, fun _ => .popXL⟩,
   ⟨⟨26, "POP YP", 0xFFF, 0xFD7, .POP, some (.reg .YP), none, .none, none⟩, fun _ => .popYP⟩,
   ⟨⟨27, "POP YH", 0xFFF, 0xFD8, .POP, some (.reg .YH), none, .none, none⟩, fun _ => .popYH⟩,
   ⟨⟨28, "POP YL", 0xFFF, 0xFD9, .POP, some (.reg .YL), none, .none, none⟩, fun _ => .popYL⟩,
   ⟨⟨29, "POP F", 0xFFF, 0xFDA, .POP, some (.reg .F), none, .none, none⟩, fun _ => .popF⟩,
   ⟨⟨30, "INC SP", 0xFFF, 0xFDB, .INC, some (.reg .SP), none, .none, none⟩, fun _ => .incSP⟩,
   ⟨⟨31, "RETS", 0xFFF, 0xFDE, .RETS, none, none, .ret, some .skipOnReturn⟩, fun _ => .rets⟩,
   ⟨⟨32, "RET", 0xFFF, 0xFDF, .RET, none, none, .ret, none⟩, fun _ => .ret⟩,
   ⟨⟨33, "JPBA", 0xFFF, 0xFE8, .JPBA, none, none, .indirect, none⟩, fun _ => .jpba⟩,
   ⟨⟨34, "HALT", 0xFFF, 0xFF8, .HALT, none, none, .none, none⟩, fun _ => .halt⟩,
   ⟨⟨35, "SLP", 0xFFF, 0xFF9, .SLP, none, none, .none, none⟩, fun _ => .slp⟩,
   ⟨⟨36, "NOP5", 0xFFF, 0xFFB, .NOP5, none, none, .none, none⟩, fun _ => .nop5⟩,
   ⟨⟨37, "NOP7", 0xFFF, 0xFFF, .NOP7, none, none, .none, none⟩, fun _ => .nop7⟩]

/-- Rule R70: the rows of masks 0xFCF and 0xFFC (formats RN, R2), priorities 38 to 61. -/
def rulesTen : List Row :=
  [
   ⟨⟨38, "NOT r", 0xFCF, 0xD0F, .NOT, some (.rq .sel54), none, .none, none⟩, fun w => .notR (selAt54 w)⟩,
   ⟨⟨39, "LD XP,r", 0xFFC, 0xE80, .LD, some (.reg .XP), some (.rq .sel10), .none, none⟩, fun w => .ldXPr (selAt10 w)⟩,
   ⟨⟨40, "LD XH,r", 0xFFC, 0xE84, .LD, some (.reg .XH), some (.rq .sel10), .none, none⟩, fun w => .ldXHr (selAt10 w)⟩,
   ⟨⟨41, "LD XL,r", 0xFFC, 0xE88, .LD, some (.reg .XL), some (.rq .sel10), .none, none⟩, fun w => .ldXLr (selAt10 w)⟩,
   ⟨⟨42, "RRC r", 0xFFC, 0xE8C, .RRC, some (.rq .sel10), none, .none, none⟩, fun w => .rrcR (selAt10 w)⟩,
   ⟨⟨43, "LD YP,r", 0xFFC, 0xE90, .LD, some (.reg .YP), some (.rq .sel10), .none, none⟩, fun w => .ldYPr (selAt10 w)⟩,
   ⟨⟨44, "LD YH,r", 0xFFC, 0xE94, .LD, some (.reg .YH), some (.rq .sel10), .none, none⟩, fun w => .ldYHr (selAt10 w)⟩,
   ⟨⟨45, "LD YL,r", 0xFFC, 0xE98, .LD, some (.reg .YL), some (.rq .sel10), .none, none⟩, fun w => .ldYLr (selAt10 w)⟩,
   ⟨⟨46, "LD r,XP", 0xFFC, 0xEA0, .LD, some (.rq .sel10), some (.reg .XP), .none, none⟩, fun w => .ldRXP (selAt10 w)⟩,
   ⟨⟨47, "LD r,XH", 0xFFC, 0xEA4, .LD, some (.rq .sel10), some (.reg .XH), .none, none⟩, fun w => .ldRXH (selAt10 w)⟩,
   ⟨⟨48, "LD r,XL", 0xFFC, 0xEA8, .LD, some (.rq .sel10), some (.reg .XL), .none, none⟩, fun w => .ldRXL (selAt10 w)⟩,
   ⟨⟨49, "LD r,YP", 0xFFC, 0xEB0, .LD, some (.rq .sel10), some (.reg .YP), .none, none⟩, fun w => .ldRYP (selAt10 w)⟩,
   ⟨⟨50, "LD r,YH", 0xFFC, 0xEB4, .LD, some (.rq .sel10), some (.reg .YH), .none, none⟩, fun w => .ldRYH (selAt10 w)⟩,
   ⟨⟨51, "LD r,YL", 0xFFC, 0xEB8, .LD, some (.rq .sel10), some (.reg .YL), .none, none⟩, fun w => .ldRYL (selAt10 w)⟩,
   ⟨⟨52, "ACPX MX,r", 0xFFC, 0xF28, .ACPX, some (.ind .X), some (.rq .sel10), .none, none⟩, fun w => .acpx (selAt10 w)⟩,
   ⟨⟨53, "ACPY MY,r", 0xFFC, 0xF2C, .ACPY, some (.ind .Y), some (.rq .sel10), .none, none⟩, fun w => .acpy (selAt10 w)⟩,
   ⟨⟨54, "SCPX MX,r", 0xFFC, 0xF38, .SCPX, some (.ind .X), some (.rq .sel10), .none, none⟩, fun w => .scpx (selAt10 w)⟩,
   ⟨⟨55, "SCPY MY,r", 0xFFC, 0xF3C, .SCPY, some (.ind .Y), some (.rq .sel10), .none, none⟩, fun w => .scpy (selAt10 w)⟩,
   ⟨⟨56, "PUSH r", 0xFFC, 0xFC0, .PUSH, some (.rq .sel10), none, .none, none⟩, fun w => .pushR (selAt10 w)⟩,
   ⟨⟨57, "POP r", 0xFFC, 0xFD0, .POP, some (.rq .sel10), none, .none, none⟩, fun w => .popR (selAt10 w)⟩,
   ⟨⟨58, "LD SPH,r", 0xFFC, 0xFE0, .LD, some (.reg .SPH), some (.rq .sel10), .none, none⟩, fun w => .ldSPHr (selAt10 w)⟩,
   ⟨⟨59, "LD r,SPH", 0xFFC, 0xFE4, .LD, some (.rq .sel10), some (.reg .SPH), .none, none⟩, fun w => .ldRSPH (selAt10 w)⟩,
   ⟨⟨60, "LD SPL,r", 0xFFC, 0xFF0, .LD, some (.reg .SPL), some (.rq .sel10), .none, none⟩, fun w => .ldSPLr (selAt10 w)⟩,
   ⟨⟨61, "LD r,SPL", 0xFFC, 0xFF4, .LD, some (.rq .sel10), some (.reg .SPL), .none, none⟩, fun w => .ldRSPL (selAt10 w)⟩]

/-- Rule R70: the rows of mask 0xFF0 (formats I4, RQ), priorities 62 to 91. -/
def rulesEight : List Row :=
  [
   ⟨⟨62, "ADC XH,i", 0xFF0, 0xA00, .ADC, some (.reg .XH), some (.imm .lower), .none, none⟩, fun w => .adcXH (lower w)⟩,
   ⟨⟨63, "ADC XL,i", 0xFF0, 0xA10, .ADC, some (.reg .XL), some (.imm .lower), .none, none⟩, fun w => .adcXL (lower w)⟩,
   ⟨⟨64, "ADC YH,i", 0xFF0, 0xA20, .ADC, some (.reg .YH), some (.imm .lower), .none, none⟩, fun w => .adcYH (lower w)⟩,
   ⟨⟨65, "ADC YL,i", 0xFF0, 0xA30, .ADC, some (.reg .YL), some (.imm .lower), .none, none⟩, fun w => .adcYL (lower w)⟩,
   ⟨⟨66, "CP XH,i", 0xFF0, 0xA40, .CP, some (.reg .XH), some (.imm .lower), .none, none⟩, fun w => .cpXH (lower w)⟩,
   ⟨⟨67, "CP XL,i", 0xFF0, 0xA50, .CP, some (.reg .XL), some (.imm .lower), .none, none⟩, fun w => .cpXL (lower w)⟩,
   ⟨⟨68, "CP YH,i", 0xFF0, 0xA60, .CP, some (.reg .YH), some (.imm .lower), .none, none⟩, fun w => .cpYH (lower w)⟩,
   ⟨⟨69, "CP YL,i", 0xFF0, 0xA70, .CP, some (.reg .YL), some (.imm .lower), .none, none⟩, fun w => .cpYL (lower w)⟩,
   ⟨⟨70, "ADD r,q", 0xFF0, 0xA80, .ADD, some (.rq .sel32), some (.rq .sel10), .none, none⟩, fun w => .addRQ (selAt32 w) (selAt10 w)⟩,
   ⟨⟨71, "ADC r,q", 0xFF0, 0xA90, .ADC, some (.rq .sel32), some (.rq .sel10), .none, none⟩, fun w => .adcRQ (selAt32 w) (selAt10 w)⟩,
   ⟨⟨72, "SUB r,q", 0xFF0, 0xAA0, .SUB, some (.rq .sel32), some (.rq .sel10), .none, none⟩, fun w => .subRQ (selAt32 w) (selAt10 w)⟩,
   ⟨⟨73, "SBC r,q", 0xFF0, 0xAB0, .SBC, some (.rq .sel32), some (.rq .sel10), .none, none⟩, fun w => .sbcRQ (selAt32 w) (selAt10 w)⟩,
   ⟨⟨74, "AND r,q", 0xFF0, 0xAC0, .AND, some (.rq .sel32), some (.rq .sel10), .none, none⟩, fun w => .andRQ (selAt32 w) (selAt10 w)⟩,
   ⟨⟨75, "OR r,q", 0xFF0, 0xAD0, .OR, some (.rq .sel32), some (.rq .sel10), .none, none⟩, fun w => .orRQ (selAt32 w) (selAt10 w)⟩,
   ⟨⟨76, "XOR r,q", 0xFF0, 0xAE0, .XOR, some (.rq .sel32), some (.rq .sel10), .none, none⟩, fun w => .xorRQ (selAt32 w) (selAt10 w)⟩,
   ⟨⟨77, "LDPX MX,i", 0xFF0, 0xE60, .LDPX, some (.ind .X), some (.imm .lower), .none, none⟩, fun w => .ldpxMX (lower w)⟩,
   ⟨⟨78, "LDPY MY,i", 0xFF0, 0xE70, .LDPY, some (.ind .Y), some (.imm .lower), .none, none⟩, fun w => .ldpyMY (lower w)⟩,
   ⟨⟨79, "LD r,q", 0xFF0, 0xEC0, .LD, some (.rq .sel32), some (.rq .sel10), .none, none⟩, fun w => .ldRQ (selAt32 w) (selAt10 w)⟩,
   ⟨⟨80, "LDPX r,q", 0xFF0, 0xEE0, .LDPX, some (.rq .sel32), some (.rq .sel10), .none, none⟩, fun w => .ldpxRQ (selAt32 w) (selAt10 w)⟩,
   ⟨⟨81, "LDPY r,q", 0xFF0, 0xEF0, .LDPY, some (.rq .sel32), some (.rq .sel10), .none, none⟩, fun w => .ldpyRQ (selAt32 w) (selAt10 w)⟩,
   ⟨⟨82, "CP r,q", 0xFF0, 0xF00, .CP, some (.rq .sel32), some (.rq .sel10), .none, none⟩, fun w => .cpRQ (selAt32 w) (selAt10 w)⟩,
   ⟨⟨83, "FAN r,q", 0xFF0, 0xF10, .FAN, some (.rq .sel32), some (.rq .sel10), .none, none⟩, fun w => .fanRQ (selAt32 w) (selAt10 w)⟩,
   ⟨⟨84, "SET F,i", 0xFF0, 0xF40, .SET, some (.reg .F), some (.imm .lower), .none, none⟩, fun w => .setF (lower w)⟩,
   ⟨⟨85, "RST F,i", 0xFF0, 0xF50, .RST, some (.reg .F), some (.imm .lower), .none, none⟩, fun w => .rstF (lower w)⟩,
   ⟨⟨86, "INC Mn", 0xFF0, 0xF60, .INC, some .mn, none, .none, none⟩, fun w => .incMn (lower w)⟩,
   ⟨⟨87, "DEC Mn", 0xFF0, 0xF70, .DEC, some .mn, none, .none, none⟩, fun w => .decMn (lower w)⟩,
   ⟨⟨88, "LD Mn,A", 0xFF0, 0xF80, .LD, some .mn, some (.reg .A), .none, none⟩, fun w => .ldMnA (lower w)⟩,
   ⟨⟨89, "LD Mn,B", 0xFF0, 0xF90, .LD, some .mn, some (.reg .B), .none, none⟩, fun w => .ldMnB (lower w)⟩,
   ⟨⟨90, "LD A,Mn", 0xFF0, 0xFA0, .LD, some (.reg .A), some .mn, .none, none⟩, fun w => .ldAMn (lower w)⟩,
   ⟨⟨91, "LD B,Mn", 0xFF0, 0xFB0, .LD, some (.reg .B), some .mn, .none, none⟩, fun w => .ldBMn (lower w)⟩]

/-- Rule R70: the rows of masks 0xFE0, 0xFC0 and 0xF00 (formats P5, RI, S8), priorities 92 to 112. -/
def rulesCoarse : List Row :=
  [
   ⟨⟨92, "PSET p", 0xFE0, 0xE40, .PSET, some (.imm .imm5), none, .none, none⟩, fun w => .pset (imm5 w)⟩,
   ⟨⟨93, "ADD r,i", 0xFC0, 0xC00, .ADD, some (.rq .sel54), some (.imm .lower), .none, none⟩, fun w => .addRI (selAt54 w) (lower w)⟩,
   ⟨⟨94, "ADC r,i", 0xFC0, 0xC40, .ADC, some (.rq .sel54), some (.imm .lower), .none, none⟩, fun w => .adcRI (selAt54 w) (lower w)⟩,
   ⟨⟨95, "AND r,i", 0xFC0, 0xC80, .AND, some (.rq .sel54), some (.imm .lower), .none, none⟩, fun w => .andRI (selAt54 w) (lower w)⟩,
   ⟨⟨96, "OR r,i", 0xFC0, 0xCC0, .OR, some (.rq .sel54), some (.imm .lower), .none, none⟩, fun w => .orRI (selAt54 w) (lower w)⟩,
   ⟨⟨97, "XOR r,i", 0xFC0, 0xD00, .XOR, some (.rq .sel54), some (.imm .lower), .none, none⟩, fun w => .xorRI (selAt54 w) (lower w)⟩,
   ⟨⟨98, "SBC r,i", 0xFC0, 0xD40, .SBC, some (.rq .sel54), some (.imm .lower), .none, none⟩, fun w => .sbcRI (selAt54 w) (lower w)⟩,
   ⟨⟨99, "FAN r,i", 0xFC0, 0xD80, .FAN, some (.rq .sel54), some (.imm .lower), .none, none⟩, fun w => .fanRI (selAt54 w) (lower w)⟩,
   ⟨⟨100, "CP r,i", 0xFC0, 0xDC0, .CP, some (.rq .sel54), some (.imm .lower), .none, none⟩, fun w => .cpRI (selAt54 w) (lower w)⟩,
   ⟨⟨101, "LD r,i", 0xFC0, 0xE00, .LD, some (.rq .sel54), some (.imm .lower), .none, none⟩, fun w => .ldRI (selAt54 w) (lower w)⟩,
   ⟨⟨102, "JP s", 0xF00, 0x000, .JP, some .addr, none, .jp, none⟩, fun w => .jp (combinedLow8 w)⟩,
   ⟨⟨103, "RETD l", 0xF00, 0x100, .RETD, some (.imm .combinedLow8), none, .ret, none⟩, fun w => .retd (combinedLow8 w)⟩,
   ⟨⟨104, "JP C,s", 0xF00, 0x200, .JP, some (.cond .C), some .addr, .jpcc, none⟩, fun w => .jpC (combinedLow8 w)⟩,
   ⟨⟨105, "JP NC,s", 0xF00, 0x300, .JP, some (.cond .NC), some .addr, .jpcc, none⟩, fun w => .jpNC (combinedLow8 w)⟩,
   ⟨⟨106, "CALL s", 0xF00, 0x400, .CALL, some .addr, none, .call, none⟩, fun w => .call (combinedLow8 w)⟩,
   ⟨⟨107, "CALZ s", 0xF00, 0x500, .CALZ, some .addr, none, .calz, none⟩, fun w => .calz (combinedLow8 w)⟩,
   ⟨⟨108, "JP Z,s", 0xF00, 0x600, .JP, some (.cond .Z), some .addr, .jpcc, none⟩, fun w => .jpZ (combinedLow8 w)⟩,
   ⟨⟨109, "JP NZ,s", 0xF00, 0x700, .JP, some (.cond .NZ), some .addr, .jpcc, none⟩, fun w => .jpNZ (combinedLow8 w)⟩,
   ⟨⟨110, "LD Y,y", 0xF00, 0x800, .LD, some (.reg .Y), some (.imm .combinedLow8), .none, none⟩, fun w => .ldY (combinedLow8 w)⟩,
   ⟨⟨111, "LBPX MX,l", 0xF00, 0x900, .LBPX, some (.ind .X), some (.imm .combinedLow8), .none, none⟩, fun w => .lbpx (combinedLow8 w)⟩,
   ⟨⟨112, "LD X,x", 0xF00, 0xB00, .LD, some (.reg .X), some (.imm .combinedLow8), .none, none⟩, fun w => .ldX (combinedLow8 w)⟩]

/-- The rule list `RULES` of 30_encoding.md rule R70, 112 rows, in the priority order of rule R69. -/
def RULES : List Row := rulesFull ++ rulesTen ++ rulesEight ++ rulesCoarse

/-! ### Opcode Decoder -/

/-- A row matches `w` when `w & mask = match` (rule R67). -/
def RowColumns.hits (row : RowColumns) (w : Word12) : Bool := w &&& row.mask == row.mtch

/-- The first row that matches wins (rule R68). -/
def decodeRow (rules : List Row) (w : Word12) : Option Row := rules.find? fun row => row.hits w

/-- The instruction a word stands for under a rule list: its first matching row's, or `UNKNOWN` (rules R68, R80). -/
def decodeWordWith (rules : List Row) (w : Word12) : Instr :=
  match decodeRow rules w with
  | some row => row.build w
  | none => .unknown w

/-- The decoder of this spec: `decodeWordWith` at `RULES`. -/
def decodeWord (w : Word12) : Instr := decodeWordWith RULES w

/-- Total on any bytes: the only rejection is `InvalidInput`, for no bytes at all (rules R27, R270). -/
def decode (bytes : List Byte) : Except DecodeError Instr :=
  match wordOf bytes with
  | .error e => .error e
  | .ok w => .ok (decodeWord w)

/-- The container bytes of a word given as a number with bit 0 its least significant bit: big-endian, byte 0 first
(20_memory.md rule R40). Bits above `nbits` are zero. -/
def tableWordBytes (nbits w : Nat) : List Byte :=
  [BitVec.ofNat 8 (w % 2 ^ nbits / 256), BitVec.ofNat 8 (w % 2 ^ nbits)]

/-- The instruction the decoder reads from a word of the opcode table. -/
def decodeTableWord (nbits w : Nat) : Option Instr :=
  match decode (tableWordBytes nbits w) with
  | .error _ => none
  | .ok i => some i

/-! ### The nibble table of rule R72 -/

/-- Rule R72, `upper = A`. -/
def nibblesA (w : Word12) : Instr :=
  match (middle w).toNat with
  | 0x0 => .adcXH (lower w)
  | 0x1 => .adcXL (lower w)
  | 0x2 => .adcYH (lower w)
  | 0x3 => .adcYL (lower w)
  | 0x4 => .cpXH (lower w)
  | 0x5 => .cpXL (lower w)
  | 0x6 => .cpYH (lower w)
  | 0x7 => .cpYL (lower w)
  | 0x8 => .addRQ (selAt32 w) (selAt10 w)
  | 0x9 => .adcRQ (selAt32 w) (selAt10 w)
  | 0xA => .subRQ (selAt32 w) (selAt10 w)
  | 0xB => .sbcRQ (selAt32 w) (selAt10 w)
  | 0xC => .andRQ (selAt32 w) (selAt10 w)
  | 0xD => .orRQ (selAt32 w) (selAt10 w)
  | 0xE => .xorRQ (selAt32 w) (selAt10 w)
  | _ =>
    match (lower w).toNat with
    | 0x0 => .rlcA
    | 0x5 => .rlcB
    | 0xA => .rlcMX
    | 0xF => .rlcMY
    | _ => .unknown w

/-- Rule R72, `upper = C`: four rows by `middle[3:2]`. -/
def nibblesC (w : Word12) : Instr :=
  match (middle w).toNat / 4 with
  | 0 => .addRI (selAt54 w) (lower w)
  | 1 => .adcRI (selAt54 w) (lower w)
  | 2 => .andRI (selAt54 w) (lower w)
  | _ => .orRI (selAt54 w) (lower w)

/-- Rule R72, `upper = D`: four rows by `middle[3:2]`, the first split by `lower = F`. -/
def nibblesD (w : Word12) : Instr :=
  match (middle w).toNat / 4 with
  | 0 => if lower w = 0xF then .notR (selAt54 w) else .xorRI (selAt54 w) (lower w)
  | 1 => .sbcRI (selAt54 w) (lower w)
  | 2 => .fanRI (selAt54 w) (lower w)
  | _ => .cpRI (selAt54 w) (lower w)

/-- Rule R72, `upper = E`. -/
def nibblesE (w : Word12) : Instr :=
  match (middle w).toNat, (lower w).toNat / 4 with
  | 0x0, _ | 0x1, _ | 0x2, _ | 0x3, _ => .ldRI (selAt54 w) (lower w)
  | 0x4, _ | 0x5, _ => .pset (imm5 w)
  | 0x6, _ => .ldpxMX (lower w)
  | 0x7, _ => .ldpyMY (lower w)
  | 0x8, 0 => .ldXPr (selAt10 w)
  | 0x8, 1 => .ldXHr (selAt10 w)
  | 0x8, 2 => .ldXLr (selAt10 w)
  | 0x8, _ => .rrcR (selAt10 w)
  | 0x9, 0 => .ldYPr (selAt10 w)
  | 0x9, 1 => .ldYHr (selAt10 w)
  | 0x9, 2 => .ldYLr (selAt10 w)
  | 0x9, _ => .unknown w
  | 0xA, 0 => .ldRXP (selAt10 w)
  | 0xA, 1 => .ldRXH (selAt10 w)
  | 0xA, 2 => .ldRXL (selAt10 w)
  | 0xA, _ => .unknown w
  | 0xB, 0 => .ldRYP (selAt10 w)
  | 0xB, 1 => .ldRYH (selAt10 w)
  | 0xB, 2 => .ldRYL (selAt10 w)
  | 0xB, _ => .unknown w
  | 0xC, _ => .ldRQ (selAt32 w) (selAt10 w)
  | 0xD, _ => .unknown w
  | 0xE, _ => if lower w = 0 then .incX else .ldpxRQ (selAt32 w) (selAt10 w)
  | _, _ => if lower w = 0 then .incY else .ldpyRQ (selAt32 w) (selAt10 w)

/-- Rule R72, `upper = F`, `middle` C to F: the stack, return and system rows, by `lower`. -/
def nibblesFHigh (w : Word12) : Instr :=
  match (middle w).toNat, (lower w).toNat with
  | 0xC, 0x4 => .pushXP
  | 0xC, 0x5 => .pushXH
  | 0xC, 0x6 => .pushXL
  | 0xC, 0x7 => .pushYP
  | 0xC, 0x8 => .pushYH
  | 0xC, 0x9 => .pushYL
  | 0xC, 0xA => .pushF
  | 0xC, 0xB => .decSP
  | 0xC, n => if n < 4 then .pushR (selAt10 w) else .unknown w
  | 0xD, 0x4 => .popXP
  | 0xD, 0x5 => .popXH
  | 0xD, 0x6 => .popXL
  | 0xD, 0x7 => .popYP
  | 0xD, 0x8 => .popYH
  | 0xD, 0x9 => .popYL
  | 0xD, 0xA => .popF
  | 0xD, 0xB => .incSP
  | 0xD, 0xE => .rets
  | 0xD, 0xF => .ret
  | 0xD, n => if n < 4 then .popR (selAt10 w) else .unknown w
  | 0xE, 0x8 => .jpba
  | 0xE, n => if n < 4 then .ldSPHr (selAt10 w) else if n < 8 then .ldRSPH (selAt10 w) else .unknown w
  | _, 0x8 => .halt
  | _, 0x9 => .slp
  | _, 0xB => .nop5
  | _, 0xF => .nop7
  | _, n => if n < 4 then .ldSPLr (selAt10 w) else if n < 8 then .ldRSPL (selAt10 w) else .unknown w

/-- Rule R72, `upper = F`. -/
def nibblesF (w : Word12) : Instr :=
  match (middle w).toNat, (lower w).toNat with
  | 0x0, _ => .cpRQ (selAt32 w) (selAt10 w)
  | 0x1, _ => .fanRQ (selAt32 w) (selAt10 w)
  | 0x2, n => if n < 8 then .unknown w else if n < 12 then .acpx (selAt10 w) else .acpy (selAt10 w)
  | 0x3, n => if n < 8 then .unknown w else if n < 12 then .scpx (selAt10 w) else .scpy (selAt10 w)
  | 0x4, 0x1 => .scf
  | 0x4, 0x2 => .szf
  | 0x4, 0x4 => .sdf
  | 0x4, 0x8 => .ei
  | 0x4, _ => .setF (lower w)
  | 0x5, 0x7 => .di
  | 0x5, 0xB => .rdf
  | 0x5, 0xD => .rzf
  | 0x5, 0xE => .rcf
  | 0x5, _ => .rstF (lower w)
  | 0x6, _ => .incMn (lower w)
  | 0x7, _ => .decMn (lower w)
  | 0x8, _ => .ldMnA (lower w)
  | 0x9, _ => .ldMnB (lower w)
  | 0xA, _ => .ldAMn (lower w)
  | 0xB, _ => .ldBMn (lower w)
  | _, _ => nibblesFHigh w

/-- The decoder as a lookup by nibbles: `upper`, then `middle`, then `lower` where it matters (rule R72). -/
def decodeByNibbles (w : Word12) : Instr :=
  match (upper w).toNat with
  | 0x0 => .jp (combinedLow8 w)
  | 0x1 => .retd (combinedLow8 w)
  | 0x2 => .jpC (combinedLow8 w)
  | 0x3 => .jpNC (combinedLow8 w)
  | 0x4 => .call (combinedLow8 w)
  | 0x5 => .calz (combinedLow8 w)
  | 0x6 => .jpZ (combinedLow8 w)
  | 0x7 => .jpNZ (combinedLow8 w)
  | 0x8 => .ldY (combinedLow8 w)
  | 0x9 => .lbpx (combinedLow8 w)
  | 0xA => nibblesA w
  | 0xB => .ldX (combinedLow8 w)
  | 0xC => nibblesC w
  | 0xD => nibblesD w
  | 0xE => nibblesE w
  | _ => nibblesF w

/-! ### Encoder -/

/-- The word of an instruction, from the column `encoding` of rule R70, bit 11 first. -/
def encode : Instr → Word12
  | .rlcA => 0b101011110000#12
  | .rlcB => 0b101011110101#12
  | .rlcMX => 0b101011111010#12
  | .rlcMY => 0b101011111111#12
  | .incX => 0b111011100000#12
  | .incY => 0b111011110000#12
  | .scf => 0b111101000001#12
  | .szf => 0b111101000010#12
  | .sdf => 0b111101000100#12
  | .ei => 0b111101001000#12
  | .di => 0b111101010111#12
  | .rdf => 0b111101011011#12
  | .rzf => 0b111101011101#12
  | .rcf => 0b111101011110#12
  | .pushXP => 0b111111000100#12
  | .pushXH => 0b111111000101#12
  | .pushXL => 0b111111000110#12
  | .pushYP => 0b111111000111#12
  | .pushYH => 0b111111001000#12
  | .pushYL => 0b111111001001#12
  | .pushF => 0b111111001010#12
  | .decSP => 0b111111001011#12
  | .popXP => 0b111111010100#12
  | .popXH => 0b111111010101#12
  | .popXL => 0b111111010110#12
  | .popYP => 0b111111010111#12
  | .popYH => 0b111111011000#12
  | .popYL => 0b111111011001#12
  | .popF => 0b111111011010#12
  | .incSP => 0b111111011011#12
  | .rets => 0b111111011110#12
  | .ret => 0b111111011111#12
  | .jpba => 0b111111101000#12
  | .halt => 0b111111111000#12
  | .slp => 0b111111111001#12
  | .nop5 => 0b111111111011#12
  | .nop7 => 0b111111111111#12
  | .notR r => 0b110100#6 ++ r.bits ++ 0b1111#4
  | .ldXPr r => 0b1110100000#10 ++ r.bits
  | .ldXHr r => 0b1110100001#10 ++ r.bits
  | .ldXLr r => 0b1110100010#10 ++ r.bits
  | .rrcR r => 0b1110100011#10 ++ r.bits
  | .ldYPr r => 0b1110100100#10 ++ r.bits
  | .ldYHr r => 0b1110100101#10 ++ r.bits
  | .ldYLr r => 0b1110100110#10 ++ r.bits
  | .ldRXP r => 0b1110101000#10 ++ r.bits
  | .ldRXH r => 0b1110101001#10 ++ r.bits
  | .ldRXL r => 0b1110101010#10 ++ r.bits
  | .ldRYP r => 0b1110101100#10 ++ r.bits
  | .ldRYH r => 0b1110101101#10 ++ r.bits
  | .ldRYL r => 0b1110101110#10 ++ r.bits
  | .acpx r => 0b1111001010#10 ++ r.bits
  | .acpy r => 0b1111001011#10 ++ r.bits
  | .scpx r => 0b1111001110#10 ++ r.bits
  | .scpy r => 0b1111001111#10 ++ r.bits
  | .pushR r => 0b1111110000#10 ++ r.bits
  | .popR r => 0b1111110100#10 ++ r.bits
  | .ldSPHr r => 0b1111111000#10 ++ r.bits
  | .ldRSPH r => 0b1111111001#10 ++ r.bits
  | .ldSPLr r => 0b1111111100#10 ++ r.bits
  | .ldRSPL r => 0b1111111101#10 ++ r.bits
  | .adcXH imm => 0b10100000#8 ++ imm
  | .adcXL imm => 0b10100001#8 ++ imm
  | .adcYH imm => 0b10100010#8 ++ imm
  | .adcYL imm => 0b10100011#8 ++ imm
  | .cpXH imm => 0b10100100#8 ++ imm
  | .cpXL imm => 0b10100101#8 ++ imm
  | .cpYH imm => 0b10100110#8 ++ imm
  | .cpYL imm => 0b10100111#8 ++ imm
  | .addRQ r q => 0b10101000#8 ++ r.bits ++ q.bits
  | .adcRQ r q => 0b10101001#8 ++ r.bits ++ q.bits
  | .subRQ r q => 0b10101010#8 ++ r.bits ++ q.bits
  | .sbcRQ r q => 0b10101011#8 ++ r.bits ++ q.bits
  | .andRQ r q => 0b10101100#8 ++ r.bits ++ q.bits
  | .orRQ r q => 0b10101101#8 ++ r.bits ++ q.bits
  | .xorRQ r q => 0b10101110#8 ++ r.bits ++ q.bits
  | .ldpxMX imm => 0b11100110#8 ++ imm
  | .ldpyMY imm => 0b11100111#8 ++ imm
  | .ldRQ r q => 0b11101100#8 ++ r.bits ++ q.bits
  | .ldpxRQ r q => 0b11101110#8 ++ r.bits ++ q.bits
  | .ldpyRQ r q => 0b11101111#8 ++ r.bits ++ q.bits
  | .cpRQ r q => 0b11110000#8 ++ r.bits ++ q.bits
  | .fanRQ r q => 0b11110001#8 ++ r.bits ++ q.bits
  | .setF imm => 0b11110100#8 ++ imm
  | .rstF imm => 0b11110101#8 ++ imm
  | .incMn n => 0b11110110#8 ++ n
  | .decMn n => 0b11110111#8 ++ n
  | .ldMnA n => 0b11111000#8 ++ n
  | .ldMnB n => 0b11111001#8 ++ n
  | .ldAMn n => 0b11111010#8 ++ n
  | .ldBMn n => 0b11111011#8 ++ n
  | .pset p => 0b1110010#7 ++ p
  | .addRI r imm => 0b110000#6 ++ r.bits ++ imm
  | .adcRI r imm => 0b110001#6 ++ r.bits ++ imm
  | .andRI r imm => 0b110010#6 ++ r.bits ++ imm
  | .orRI r imm => 0b110011#6 ++ r.bits ++ imm
  | .xorRI r imm => 0b110100#6 ++ r.bits ++ imm
  | .sbcRI r imm => 0b110101#6 ++ r.bits ++ imm
  | .fanRI r imm => 0b110110#6 ++ r.bits ++ imm
  | .cpRI r imm => 0b110111#6 ++ r.bits ++ imm
  | .ldRI r imm => 0b111000#6 ++ r.bits ++ imm
  | .jp step => 0b0000#4 ++ step
  | .retd l => 0b0001#4 ++ l
  | .jpC step => 0b0010#4 ++ step
  | .jpNC step => 0b0011#4 ++ step
  | .call step => 0b0100#4 ++ step
  | .calz step => 0b0101#4 ++ step
  | .jpZ step => 0b0110#4 ++ step
  | .jpNZ step => 0b0111#4 ++ step
  | .ldY y => 0b1000#4 ++ y
  | .lbpx l => 0b1001#4 ++ l
  | .ldX x => 0b1011#4 ++ x
  | .unknown w => w

/-- The container of an instruction: byte 0 holds the top four bits in its low nibble (20_memory.md rule R40). Bits 15:12
carry nothing; the encoder writes zeros there (log entry 13). -/
def encodeBytes (i : Instr) : List Byte := [0#4 ++ upper (encode i), combinedLow8 (encode i)]

/-- The column `prio` of an instruction's row in rule R70; `UNKNOWN` is 113. -/
def Instr.prio : Instr → Nat
  | .rlcA => 1 | .rlcB => 2 | .rlcMX => 3 | .rlcMY => 4 | .incX => 5 | .incY => 6 | .scf => 7 | .szf => 8
  | .sdf => 9 | .ei => 10 | .di => 11 | .rdf => 12 | .rzf => 13 | .rcf => 14 | .pushXP => 15 | .pushXH => 16
  | .pushXL => 17 | .pushYP => 18 | .pushYH => 19 | .pushYL => 20 | .pushF => 21 | .decSP => 22 | .popXP => 23
  | .popXH => 24 | .popXL => 25 | .popYP => 26 | .popYH => 27 | .popYL => 28 | .popF => 29 | .incSP => 30
  | .rets => 31 | .ret => 32 | .jpba => 33 | .halt => 34 | .slp => 35 | .nop5 => 36 | .nop7 => 37 | .notR _ => 38
  | .ldXPr _ => 39 | .ldXHr _ => 40 | .ldXLr _ => 41 | .rrcR _ => 42 | .ldYPr _ => 43 | .ldYHr _ => 44
  | .ldYLr _ => 45 | .ldRXP _ => 46 | .ldRXH _ => 47 | .ldRXL _ => 48 | .ldRYP _ => 49 | .ldRYH _ => 50
  | .ldRYL _ => 51 | .acpx _ => 52 | .acpy _ => 53 | .scpx _ => 54 | .scpy _ => 55 | .pushR _ => 56 | .popR _ => 57
  | .ldSPHr _ => 58 | .ldRSPH _ => 59 | .ldSPLr _ => 60 | .ldRSPL _ => 61 | .adcXH _ => 62 | .adcXL _ => 63
  | .adcYH _ => 64 | .adcYL _ => 65 | .cpXH _ => 66 | .cpXL _ => 67 | .cpYH _ => 68 | .cpYL _ => 69
  | .addRQ _ _ => 70 | .adcRQ _ _ => 71 | .subRQ _ _ => 72 | .sbcRQ _ _ => 73 | .andRQ _ _ => 74 | .orRQ _ _ => 75
  | .xorRQ _ _ => 76 | .ldpxMX _ => 77 | .ldpyMY _ => 78 | .ldRQ _ _ => 79 | .ldpxRQ _ _ => 80 | .ldpyRQ _ _ => 81
  | .cpRQ _ _ => 82 | .fanRQ _ _ => 83 | .setF _ => 84 | .rstF _ => 85 | .incMn _ => 86 | .decMn _ => 87
  | .ldMnA _ => 88 | .ldMnB _ => 89 | .ldAMn _ => 90 | .ldBMn _ => 91 | .pset _ => 92 | .addRI _ _ => 93
  | .adcRI _ _ => 94 | .andRI _ _ => 95 | .orRI _ _ => 96 | .xorRI _ _ => 97 | .sbcRI _ _ => 98 | .fanRI _ _ => 99
  | .cpRI _ _ => 100 | .ldRI _ _ => 101 | .jp _ => 102 | .retd _ => 103 | .jpC _ => 104 | .jpNC _ => 105
  | .call _ => 106 | .calz _ => 107 | .jpZ _ => 108 | .jpNZ _ => 109 | .ldY _ => 110 | .lbpx _ => 111
  | .ldX _ => 112 | .unknown _ => 113

end Sys2Proof
end

