-- ==== Sys2Proof/Machine/State.lean ====
section
/-! DEFINITION. The state of the model as plain data. The block has no state of its own (10_state.md rules R10, R38); the
model's state is one call's inputs and output (rules R12, R17) and the environment's Page State Index with the phase of
its life (rules R30 to R33; 70_reset_and_hazards.md rule R293). -/

namespace Sys2Proof.Machine

/-- A record of the Page State Index (rule R30). -/
structure PageRecord where
  address   : WordAddr
  pageValue : PageValue
  deriving DecidableEq, Repr

/-- The life of the environment's index (rule R33, 20_memory.md rule R50): built by the pre-pass, then finished. -/
inductive IndexPhase where
  | building | finished
  deriving DecidableEq, Repr

/-- How the machine can stop. -/
inductive Fault where
  /-- Raised by a call with no bytes (60_exceptions.md rule R270): no result is produced. Safe: the spec has a model
  treat it so (93_implementation_defined.md U1). -/
  | invalidInput
  deriving DecidableEq, Repr

/-- Where the model gives no answer. -/
inductive Refusal where
  /-- Raised by an arm of `exec` whose instruction has no meaning yet; no arm is left that raises it. Safe. -/
  | notModelled (mnemonic : String)
  /-- Raised by the environment-level call `decodeSrc` while the index is being built (70_reset_and_hazards.md rule R294,
  93_implementation_defined.md U6); never by `step`. Safe. -/
  | indexNotFinished
  deriving DecidableEq, Repr

/-- The inputs and output of a call, and the environment's index. -/
structure State where
  /-- input `bytes`: the container as handed over (rules R12, R13) -/
  bytes   : List Byte
  /-- input `address`: the word-address of the instruction (rules R12, R22) -/
  address : WordAddr
  /-- input `page_rec`: bank bit 4, page nibble 3:0 (rules R12, R28) -/
  pageRec : PageValue
  /-- the output of the last call (rule R17); no rule reads it (log entry 4) -/
  result  : Option DecodedInstruction
  /-- the environment's Page State Index, addresses strictly rising (rules R30 to R33, log entry 18) -/
  index   : List PageRecord
  /-- whether the index is finished (rule R33) -/
  phase   : IndexPhase
  deriving DecidableEq, Repr

/-- The outcome of a step or of a meaning. -/
abbrev Result := Host.Outcome State Fault Refusal

/-- The index is in canonical form: addresses strictly rising, so at most one record per address (rule R30). -/
abbrev IndexWf (ix : List PageRecord) : Prop :=
  ix.Pairwise fun a b => a.address.toNat < b.address.toNat

/-- After reset: the index is empty and still to be built, and `page_rec` is the default value (70_reset_and_hazards.md
rules R292, R293). No container is presented, `address` is 0 and there is no result: log entries 2, 3, 4. -/
def State.reset : State :=
  { bytes := [], address := 0, pageRec := Config.defaultPageValue, result := none, index := [], phase := .building }

/-- Record the output of a call; nothing else changes. -/
def State.withResult (s : State) (d : DecodedInstruction) : State := { s with result := some d }

end Sys2Proof.Machine
end

