-- ==== Sys2Proof/Machine/Ops.lean ====
section
/-! DEFINITION. The shared operations of the block: emitting a result, raising the one error, the address arithmetic of
40_branch.md rules R100 to R103, the edge lists of 10_state.md rule R23, and the doubling at the display boundary. -/

namespace Sys2Proof.Machine

/-! ### Results and the one error -/

/-- End a call with its one `DecodedInstruction` (rule R17). -/
def emit (s : State) (d : DecodedInstruction) : Result := .next (s.withResult d)

/-- A row of edge class `none` without a comment (rules R23, R25). -/
def emitPlain (s : State) (m : Mnemonic) (op1 op2 : Option Operand) : Result := emit s ⟨m, op1, op2, [], none⟩

/-- Raise `InvalidInput`: the call fails, no result is produced, nothing is saved and control goes nowhere
(60_exceptions.md rules R270, R271, R276). There is no return from it (rule R277): the environment makes the next call. -/
def raise : DecodeError → Result
  | .invalidInput => .fault .invalidInput

/-- The output of a word that no row matches (30_encoding.md rule R80). -/
def unknownOutput : DecodedInstruction := ⟨.UNKNOWN, none, none, [], none⟩

/-! ### Address arithmetic -/

/-- `bank_bit = page_rec[4]` (10_state.md rule R28). -/
def bankBit (pageRec : PageValue) : BitVec 1 := pageRec.extractLsb' 4 1

/-- `page_nibble = page_rec[3:0]` (rule R28). -/
def pageNibble (pageRec : PageValue) : Nibble := pageRec.extractLsb' 0 4

/-- `(bank << 12) | (page << 8) | step`, zero-extended to `ADDR_W` (rule R100, 20_memory.md rule R46). -/
def assembleTarget (bank : BitVec 1) (page : Nibble) (step : Byte) : WordAddr :=
  (bank.setWidth 32 <<< 12) ||| (page.setWidth 32 <<< 8) ||| step.setWidth 32

/-- `JpTarget`: bank and page from the page record (rule R100). -/
def jpTarget (pageRec : PageValue) (step : Byte) : WordAddr :=
  assembleTarget (bankBit pageRec) (pageNibble pageRec) step

/-- `CallTarget`: the bank bit is `address[12]`, and the page nibble is `address[11:8]` or, under the other value of
`CALL_PAGE_SOURCE`, `page_rec[3:0]` (rule R101). -/
def callTarget (src : CallPageSource) (address : WordAddr) (pageRec : PageValue) (step : Byte) : WordAddr :=
  let page := match src with
    | .address => address.extractLsb' 8 4
    | .pageRec => pageNibble pageRec
  assembleTarget (address.extractLsb' 12 1) page step

/-- `CalzTarget`: the bank bit is `address[12]` and the page nibble is `CALZ_PAGE` (rule R102). -/
def calzTarget (calzPage : Nibble) (address : WordAddr) (step : Byte) : WordAddr :=
  assembleTarget (address.extractLsb' 12 1) calzPage step

/-- `NextAddr = (address + 1) mod 2^32` (rule R103). -/
def nextAddr (address : WordAddr) : WordAddr := address + 1

/-! ### Edge lists (rule R23) -/

/-- Edge class `jp`. -/
def jpEdges (pageRec : PageValue) (step : Byte) : List BranchEdge :=
  [⟨.unconditional, some (jpTarget pageRec step)⟩]

/-- Edge class `jpcc`: the True edge, then the False edge to the instruction immediately following (rule R24). -/
def jpccEdges (address : WordAddr) (pageRec : PageValue) (step : Byte) : List BranchEdge :=
  [⟨.trueBranch, some (jpTarget pageRec step)⟩, ⟨.falseBranch, some (nextAddr address)⟩]

/-- Edge class `call`. -/
def callEdges (p : Params) (address : WordAddr) (pageRec : PageValue) (step : Byte) : List BranchEdge :=
  [⟨.callDestination, some (callTarget p.callPageSource address pageRec step)⟩]

/-- Edge class `calz`. -/
def calzEdges (p : Params) (address : WordAddr) (step : Byte) : List BranchEdge :=
  [⟨.callDestination, some (calzTarget p.calzPage address step)⟩]

/-- Edge class `indirect`: no statically known target. -/
def indirectEdges : List BranchEdge := [⟨.indirect, none⟩]

/-- Edge class `ret`: no statically known target. -/
def retEdges : List BranchEdge := [⟨.functionReturn, none⟩]

/-! ### Display boundary -/

/-- A byte-address is exactly double the word-address, and exists at the display boundary only (10_state.md rule R36,
30_encoding.md rule R91); one bit wider, so that doubling never wraps. -/
def displayAddress (a : WordAddr) : BitVec 33 := a.setWidth 33 <<< 1

end Sys2Proof.Machine
end

