-- ==== Sys2Proof/Machine/Operands.lean ====
section
/-! DEFINITION. The operand builders of 30_encoding.md rules R63 to R66. -/

namespace Sys2Proof.Machine

/-- The operand of a two-bit selector (rule R63). -/
def selOperand : Sel → Operand
  | .a => .register .A
  | .b => .register .B
  | .mx => .registerIndirect .X
  | .my => .registerIndirect .Y

/-- `Imm(lower)`: a 4-bit immediate, zero-extended to 8 bits (rule R64). -/
def immNibble (v : Nibble) : Operand := .immediate (v.setWidth 8)

/-- `Imm(imm5)`: a 5-bit immediate, zero-extended to 8 bits (rule R64). -/
def immPage (v : PageValue) : Operand := .immediate (v.setWidth 8)

/-- `Imm(combined_low8)`: an 8-bit immediate (rule R64). -/
def immByte (v : Byte) : Operand := .immediate v

/-- `Addr(combined_low8)`: the instruction's own step in word units, zero-extended to 16 bits; not the target (rule R65). -/
def addrStep (step : Byte) : Operand := .address (step.setWidth 16)

/-- `Mn(lower)`: one of the names `M0` to `MF` (rule R66). -/
def memName (n : Nibble) : Operand := .register (.M n)

/-- The two-bit sub-field of a word (10_state.md rule R16). -/
def selField : SelField → Word12 → Sel
  | .sel54, w => selAt54 w
  | .sel32, w => selAt32 w
  | .sel10, w => selAt10 w

/-- The immediate a builder takes from a word (rule R64). -/
def immField : ImmField → Word12 → Operand
  | .lower, w => immNibble (lower w)
  | .imm5, w => immPage (imm5 w)
  | .combinedLow8, w => immByte (combinedLow8 w)

/-- The operand a column of the rule list builds from a word (rules R63 to R66). -/
def buildOperand (w : Word12) : OperandBuilder → Operand
  | .rq f => selOperand (selField f w)
  | .imm f => immField f w
  | .addr => addrStep (combinedLow8 w)
  | .reg n => .register n
  | .ind n => .registerIndirect n
  | .cond c => .conditionName c
  | .mn => memName (lower w)

end Sys2Proof.Machine
end

