-- ==== Sys2Proof/Machine/Arith.lean ====
section
/-! DEFINITION. The arithmetic and logic family (spec file 46_arith.md): for each row the `DecodedInstruction` its rule has the
block output. No row raises an error, reads a flag or changes anything but the result. The words after a rule number are
the spec's gloss of the target CPU's instruction, for orientation only (93_implementation_defined.md G4). -/

namespace Sys2Proof.Machine

/-- `ADD r,i`, rule R230: add the 4-bit literal to r. -/
def execAddRI (r : Sel) (imm : Nibble) (s : State) : Result :=
  emitPlain s .ADD (some (selOperand r)) (some (immNibble imm))

/-- `ADD r,q`, rule R231: add q to r. -/
def execAddRQ (r : Sel) (q : Sel) (s : State) : Result :=
  emitPlain s .ADD (some (selOperand r)) (some (selOperand q))

/-- `ADC r,i`, rule R232: add the 4-bit literal and carry to r. -/
def execAdcRI (r : Sel) (imm : Nibble) (s : State) : Result :=
  emitPlain s .ADC (some (selOperand r)) (some (immNibble imm))

/-- `ADC r,q`, rule R233: add q and carry to r. -/
def execAdcRQ (r : Sel) (q : Sel) (s : State) : Result :=
  emitPlain s .ADC (some (selOperand r)) (some (selOperand q))

/-- `SUB r,q`, rule R234: subtract q from r. -/
def execSubRQ (r : Sel) (q : Sel) (s : State) : Result :=
  emitPlain s .SUB (some (selOperand r)) (some (selOperand q))

/-- `SBC r,i`, rule R235: subtract the 4-bit literal and carry from r. -/
def execSbcRI (r : Sel) (imm : Nibble) (s : State) : Result :=
  emitPlain s .SBC (some (selOperand r)) (some (immNibble imm))

/-- `SBC r,q`, rule R236: subtract q and carry from r. -/
def execSbcRQ (r : Sel) (q : Sel) (s : State) : Result :=
  emitPlain s .SBC (some (selOperand r)) (some (selOperand q))

/-- `AND r,i`, rule R237: bitwise and of r with the 4-bit literal. -/
def execAndRI (r : Sel) (imm : Nibble) (s : State) : Result :=
  emitPlain s .AND (some (selOperand r)) (some (immNibble imm))

/-- `AND r,q`, rule R238: bitwise and of r with q. -/
def execAndRQ (r : Sel) (q : Sel) (s : State) : Result :=
  emitPlain s .AND (some (selOperand r)) (some (selOperand q))

/-- `OR r,i`, rule R239: bitwise or of r with the 4-bit literal. -/
def execOrRI (r : Sel) (imm : Nibble) (s : State) : Result :=
  emitPlain s .OR (some (selOperand r)) (some (immNibble imm))

/-- `OR r,q`, rule R240: bitwise or of r with q. -/
def execOrRQ (r : Sel) (q : Sel) (s : State) : Result :=
  emitPlain s .OR (some (selOperand r)) (some (selOperand q))

/-- `XOR r,i`, rule R241: bitwise exclusive or of r with the 4-bit literal. -/
def execXorRI (r : Sel) (imm : Nibble) (s : State) : Result :=
  emitPlain s .XOR (some (selOperand r)) (some (immNibble imm))

/-- `XOR r,q`, rule R242: bitwise exclusive or of r with q. -/
def execXorRQ (r : Sel) (q : Sel) (s : State) : Result :=
  emitPlain s .XOR (some (selOperand r)) (some (selOperand q))

/-- `CP r,i`, rule R243: compare r with the 4-bit literal. -/
def execCpRI (r : Sel) (imm : Nibble) (s : State) : Result :=
  emitPlain s .CP (some (selOperand r)) (some (immNibble imm))

/-- `CP r,q`, rule R244: compare r with q. -/
def execCpRQ (r : Sel) (q : Sel) (s : State) : Result :=
  emitPlain s .CP (some (selOperand r)) (some (selOperand q))

/-- `FAN r,i`, rule R245: flag-only and of r with the 4-bit literal. -/
def execFanRI (r : Sel) (imm : Nibble) (s : State) : Result :=
  emitPlain s .FAN (some (selOperand r)) (some (immNibble imm))

/-- `FAN r,q`, rule R246: flag-only and of r with q. -/
def execFanRQ (r : Sel) (q : Sel) (s : State) : Result :=
  emitPlain s .FAN (some (selOperand r)) (some (selOperand q))

/-- `RLC A`, rule R247: rotate r left through carry. -/
def execRlcA (s : State) : Result :=
  emitPlain s .RLC (some (selOperand .a)) none

/-- `RLC B`, rule R247: rotate r left through carry. -/
def execRlcB (s : State) : Result :=
  emitPlain s .RLC (some (selOperand .b)) none

/-- `RLC MX`, rule R247: rotate r left through carry. -/
def execRlcMX (s : State) : Result :=
  emitPlain s .RLC (some (selOperand .mx)) none

/-- `RLC MY`, rule R247: rotate r left through carry. -/
def execRlcMY (s : State) : Result :=
  emitPlain s .RLC (some (selOperand .my)) none

/-- `RRC r`, rule R248: rotate r right through carry. -/
def execRrcR (r : Sel) (s : State) : Result :=
  emitPlain s .RRC (some (selOperand r)) none

/-- `INC Mn`, rule R249: increment data memory nibble Mn. -/
def execIncMn (n : Nibble) (s : State) : Result :=
  emitPlain s .INC (some (memName n)) none

/-- `DEC Mn`, rule R250: decrement data memory nibble Mn. -/
def execDecMn (n : Nibble) (s : State) : Result :=
  emitPlain s .DEC (some (memName n)) none

/-- `ACPX MX,r`, rule R251: add r and carry to memory at X, then increment X. -/
def execAcpx (r : Sel) (s : State) : Result :=
  emitPlain s .ACPX (some (.registerIndirect .X)) (some (selOperand r))

/-- `ACPY MY,r`, rule R252: add r and carry to memory at Y, then increment Y. -/
def execAcpy (r : Sel) (s : State) : Result :=
  emitPlain s .ACPY (some (.registerIndirect .Y)) (some (selOperand r))

/-- `SCPX MX,r`, rule R253: subtract r and carry from memory at X, then increment X. -/
def execScpx (r : Sel) (s : State) : Result :=
  emitPlain s .SCPX (some (.registerIndirect .X)) (some (selOperand r))

/-- `SCPY MY,r`, rule R254: subtract r and carry from memory at Y, then increment Y. -/
def execScpy (r : Sel) (s : State) : Result :=
  emitPlain s .SCPY (some (.registerIndirect .Y)) (some (selOperand r))

/-- `NOT r`, rule R255: bitwise complement of r. -/
def execNotR (r : Sel) (s : State) : Result :=
  emitPlain s .NOT (some (selOperand r)) none

end Sys2Proof.Machine
end

