-- ==== Sys2Proof/Machine/Branch.lean ====
section
/-! DEFINITION. The branch family (spec file 40_branch.md): for each row the `DecodedInstruction` its rule has the
block output. No row raises an error, reads a flag or changes anything but the result. The words after a rule number are
the spec's gloss of the target CPU's instruction, for orientation only (93_implementation_defined.md G4). -/

namespace Sys2Proof.Machine

/-- `PSET p`, rule R104: set page (bank and page for the next jump). -/
def execPset (p : BitVec 5) (s : State) : Result :=
  emitPlain s .PSET (some (immPage p)) none

/-- `JP s`, rule R105: unconditional jump. -/
def execJp (step : Byte) (s : State) : Result :=
  emit s ⟨.JP, some (addrStep step), none, jpEdges s.pageRec step, none⟩

/-- `JP C,s`, rule R106: jump if carry set. -/
def execJpC (step : Byte) (s : State) : Result :=
  emit s ⟨.JP, some (.conditionName .C), some (addrStep step), jpccEdges s.address s.pageRec step, none⟩

/-- `JP NC,s`, rule R107: jump if carry clear. -/
def execJpNC (step : Byte) (s : State) : Result :=
  emit s ⟨.JP, some (.conditionName .NC), some (addrStep step), jpccEdges s.address s.pageRec step, none⟩

/-- `JP Z,s`, rule R108: jump if zero set. -/
def execJpZ (step : Byte) (s : State) : Result :=
  emit s ⟨.JP, some (.conditionName .Z), some (addrStep step), jpccEdges s.address s.pageRec step, none⟩

/-- `JP NZ,s`, rule R109: jump if zero clear. -/
def execJpNZ (step : Byte) (s : State) : Result :=
  emit s ⟨.JP, some (.conditionName .NZ), some (addrStep step), jpccEdges s.address s.pageRec step, none⟩

/-- `JPBA`, rule R110: indirect jump through the register pair B (high nibble) and A (low nibble). -/
def execJpba (s : State) : Result :=
  emit s ⟨.JPBA, none, none, indirectEdges, none⟩

/-- `CALL s`, rule R111: call subroutine in the current page. -/
def execCall (step : Byte) (s : State) : Result :=
  emit s ⟨.CALL, some (addrStep step), none, callEdges Config.params s.address s.pageRec step, none⟩

/-- `CALZ s`, rule R112: call subroutine in page zero of the current bank. -/
def execCalz (step : Byte) (s : State) : Result :=
  emit s ⟨.CALZ, some (addrStep step), none, calzEdges Config.params s.address step, none⟩

/-- `RET`, rule R113: return from subroutine. -/
def execRet (s : State) : Result :=
  emit s ⟨.RET, none, none, retEdges, none⟩

/-- `RETS`, rule R114: return and skip the instruction at the return address. -/
def execRets (s : State) : Result :=
  emit s ⟨.RETS, none, none, retEdges, some .skipOnReturn⟩

/-- `RETD l`, rule R115: store the 8-bit literal to memory at X and return. -/
def execRetd (l : Byte) (s : State) : Result :=
  emit s ⟨.RETD, some (immByte l), none, retEdges, none⟩

end Sys2Proof.Machine
end

