-- ==== Sys2Proof/Machine/FlagRows.lean ====
section
/-! DEFINITION. The flag family (spec file 44_flag.md): for each row the `DecodedInstruction` its rule has the
block output. No row raises an error, reads a flag or changes anything but the result. The words after a rule number are
the spec's gloss of the target CPU's instruction, for orientation only (93_implementation_defined.md G4). -/

namespace Sys2Proof.Machine

/-- `SET F,i`, rule R180: set the flag bits selected by mask i. -/
def execSetF (imm : Nibble) (s : State) : Result :=
  emitPlain s .SET (some (.register .F)) (some (immNibble imm))

/-- `RST F,i`, rule R181: reset the flag bits cleared in mask i. -/
def execRstF (imm : Nibble) (s : State) : Result :=
  emitPlain s .RST (some (.register .F)) (some (immNibble imm))

/-- `SCF`, rule R182: set carry flag. -/
def execScf (s : State) : Result :=
  emitPlain s .SCF none none

/-- `RCF`, rule R183: reset carry flag. -/
def execRcf (s : State) : Result :=
  emitPlain s .RCF none none

/-- `SZF`, rule R184: set zero flag. -/
def execSzf (s : State) : Result :=
  emitPlain s .SZF none none

/-- `RZF`, rule R185: reset zero flag. -/
def execRzf (s : State) : Result :=
  emitPlain s .RZF none none

/-- `SDF`, rule R186: set decimal flag. -/
def execSdf (s : State) : Result :=
  emitPlain s .SDF none none

/-- `RDF`, rule R187: reset decimal flag. -/
def execRdf (s : State) : Result :=
  emitPlain s .RDF none none

/-- `EI`, rule R188: enable interrupts (set I flag). -/
def execEi (s : State) : Result :=
  emitPlain s .EI none none

/-- `DI`, rule R189: disable interrupts (reset I flag). -/
def execDi (s : State) : Result :=
  emitPlain s .DI none none

end Sys2Proof.Machine
end

