-- ==== Sys2Proof/Machine/Index.lean ====
section
/-! DEFINITION. The index-register family (spec file 42_index.md): for each row the `DecodedInstruction` its rule has the
block output. No row raises an error, reads a flag or changes anything but the result. The words after a rule number are
the spec's gloss of the target CPU's instruction, for orientation only (93_implementation_defined.md G4). -/

namespace Sys2Proof.Machine

/-- `INC X`, rule R130: increment the index register X. -/
def execIncX (s : State) : Result :=
  emitPlain s .INC (some (.register .X)) none

/-- `INC Y`, rule R131: increment the index register Y. -/
def execIncY (s : State) : Result :=
  emitPlain s .INC (some (.register .Y)) none

/-- `LD X,x`, rule R132: load the 8-bit literal into XH:XL. -/
def execLdX (x : Byte) (s : State) : Result :=
  emitPlain s .LD (some (.register .X)) (some (immByte x))

/-- `LD Y,y`, rule R133: load the 8-bit literal into YH:YL. -/
def execLdY (y : Byte) (s : State) : Result :=
  emitPlain s .LD (some (.register .Y)) (some (immByte y))

/-- `LD XP,r`, rule R134: load r into XP. -/
def execLdXPr (r : Sel) (s : State) : Result :=
  emitPlain s .LD (some (.register .XP)) (some (selOperand r))

/-- `LD XH,r`, rule R135: load r into XH. -/
def execLdXHr (r : Sel) (s : State) : Result :=
  emitPlain s .LD (some (.register .XH)) (some (selOperand r))

/-- `LD XL,r`, rule R136: load r into XL. -/
def execLdXLr (r : Sel) (s : State) : Result :=
  emitPlain s .LD (some (.register .XL)) (some (selOperand r))

/-- `LD YP,r`, rule R137: load r into YP. -/
def execLdYPr (r : Sel) (s : State) : Result :=
  emitPlain s .LD (some (.register .YP)) (some (selOperand r))

/-- `LD YH,r`, rule R138: load r into YH. -/
def execLdYHr (r : Sel) (s : State) : Result :=
  emitPlain s .LD (some (.register .YH)) (some (selOperand r))

/-- `LD YL,r`, rule R139: load r into YL. -/
def execLdYLr (r : Sel) (s : State) : Result :=
  emitPlain s .LD (some (.register .YL)) (some (selOperand r))

/-- `LD r,XP`, rule R140: load XP into r. -/
def execLdRXP (r : Sel) (s : State) : Result :=
  emitPlain s .LD (some (selOperand r)) (some (.register .XP))

/-- `LD r,XH`, rule R141: load XH into r. -/
def execLdRXH (r : Sel) (s : State) : Result :=
  emitPlain s .LD (some (selOperand r)) (some (.register .XH))

/-- `LD r,XL`, rule R142: load XL into r. -/
def execLdRXL (r : Sel) (s : State) : Result :=
  emitPlain s .LD (some (selOperand r)) (some (.register .XL))

/-- `LD r,YP`, rule R143: load YP into r. -/
def execLdRYP (r : Sel) (s : State) : Result :=
  emitPlain s .LD (some (selOperand r)) (some (.register .YP))

/-- `LD r,YH`, rule R144: load YH into r. -/
def execLdRYH (r : Sel) (s : State) : Result :=
  emitPlain s .LD (some (selOperand r)) (some (.register .YH))

/-- `LD r,YL`, rule R145: load YL into r. -/
def execLdRYL (r : Sel) (s : State) : Result :=
  emitPlain s .LD (some (selOperand r)) (some (.register .YL))

/-- `ADC XH,i`, rule R146: add the 4-bit literal and carry to XH. -/
def execAdcXH (imm : Nibble) (s : State) : Result :=
  emitPlain s .ADC (some (.register .XH)) (some (immNibble imm))

/-- `ADC XL,i`, rule R147: add the 4-bit literal and carry to XL. -/
def execAdcXL (imm : Nibble) (s : State) : Result :=
  emitPlain s .ADC (some (.register .XL)) (some (immNibble imm))

/-- `ADC YH,i`, rule R148: add the 4-bit literal and carry to YH. -/
def execAdcYH (imm : Nibble) (s : State) : Result :=
  emitPlain s .ADC (some (.register .YH)) (some (immNibble imm))

/-- `ADC YL,i`, rule R149: add the 4-bit literal and carry to YL. -/
def execAdcYL (imm : Nibble) (s : State) : Result :=
  emitPlain s .ADC (some (.register .YL)) (some (immNibble imm))

/-- `CP XH,i`, rule R150: compare XH with the 4-bit literal. -/
def execCpXH (imm : Nibble) (s : State) : Result :=
  emitPlain s .CP (some (.register .XH)) (some (immNibble imm))

/-- `CP XL,i`, rule R151: compare XL with the 4-bit literal. -/
def execCpXL (imm : Nibble) (s : State) : Result :=
  emitPlain s .CP (some (.register .XL)) (some (immNibble imm))

/-- `CP YH,i`, rule R152: compare YH with the 4-bit literal. -/
def execCpYH (imm : Nibble) (s : State) : Result :=
  emitPlain s .CP (some (.register .YH)) (some (immNibble imm))

/-- `CP YL,i`, rule R153: compare YL with the 4-bit literal. -/
def execCpYL (imm : Nibble) (s : State) : Result :=
  emitPlain s .CP (some (.register .YL)) (some (immNibble imm))

end Sys2Proof.Machine
end

