-- ==== Sys2Proof/Machine/Stack.lean ====
section
/-! DEFINITION. The stack family (spec file 45_stack.md): for each row the `DecodedInstruction` its rule has the
block output. No row raises an error, reads a flag or changes anything but the result. The words after a rule number are
the spec's gloss of the target CPU's instruction, for orientation only (93_implementation_defined.md G4). -/

namespace Sys2Proof.Machine

/-- `INC SP`, rule R200: increment the stack pointer. -/
def execIncSP (s : State) : Result :=
  emitPlain s .INC (some (.register .SP)) none

/-- `DEC SP`, rule R201: decrement the stack pointer. -/
def execDecSP (s : State) : Result :=
  emitPlain s .DEC (some (.register .SP)) none

/-- `PUSH r`, rule R202: push r. -/
def execPushR (r : Sel) (s : State) : Result :=
  emitPlain s .PUSH (some (selOperand r)) none

/-- `PUSH XP`, rule R203: push XP. -/
def execPushXP (s : State) : Result :=
  emitPlain s .PUSH (some (.register .XP)) none

/-- `PUSH XH`, rule R204: push XH. -/
def execPushXH (s : State) : Result :=
  emitPlain s .PUSH (some (.register .XH)) none

/-- `PUSH XL`, rule R205: push XL. -/
def execPushXL (s : State) : Result :=
  emitPlain s .PUSH (some (.register .XL)) none

/-- `PUSH YP`, rule R206: push YP. -/
def execPushYP (s : State) : Result :=
  emitPlain s .PUSH (some (.register .YP)) none

/-- `PUSH YH`, rule R207: push YH. -/
def execPushYH (s : State) : Result :=
  emitPlain s .PUSH (some (.register .YH)) none

/-- `PUSH YL`, rule R208: push YL. -/
def execPushYL (s : State) : Result :=
  emitPlain s .PUSH (some (.register .YL)) none

/-- `PUSH F`, rule R209: push the flag register. -/
def execPushF (s : State) : Result :=
  emitPlain s .PUSH (some (.register .F)) none

/-- `POP r`, rule R210: pop r. -/
def execPopR (r : Sel) (s : State) : Result :=
  emitPlain s .POP (some (selOperand r)) none

/-- `POP XP`, rule R211: pop XP. -/
def execPopXP (s : State) : Result :=
  emitPlain s .POP (some (.register .XP)) none

/-- `POP XH`, rule R212: pop XH. -/
def execPopXH (s : State) : Result :=
  emitPlain s .POP (some (.register .XH)) none

/-- `POP XL`, rule R213: pop XL. -/
def execPopXL (s : State) : Result :=
  emitPlain s .POP (some (.register .XL)) none

/-- `POP YP`, rule R214: pop YP. -/
def execPopYP (s : State) : Result :=
  emitPlain s .POP (some (.register .YP)) none

/-- `POP YH`, rule R215: pop YH. -/
def execPopYH (s : State) : Result :=
  emitPlain s .POP (some (.register .YH)) none

/-- `POP YL`, rule R216: pop YL. -/
def execPopYL (s : State) : Result :=
  emitPlain s .POP (some (.register .YL)) none

/-- `POP F`, rule R217: pop the flag register. -/
def execPopF (s : State) : Result :=
  emitPlain s .POP (some (.register .F)) none

/-- `LD SPH,r`, rule R218: load r into the high nibble of SP. -/
def execLdSPHr (r : Sel) (s : State) : Result :=
  emitPlain s .LD (some (.register .SPH)) (some (selOperand r))

/-- `LD SPL,r`, rule R219: load r into the low nibble of SP. -/
def execLdSPLr (r : Sel) (s : State) : Result :=
  emitPlain s .LD (some (.register .SPL)) (some (selOperand r))

/-- `LD r,SPH`, rule R220: load the high nibble of SP into r. -/
def execLdRSPH (r : Sel) (s : State) : Result :=
  emitPlain s .LD (some (selOperand r)) (some (.register .SPH))

/-- `LD r,SPL`, rule R221: load the low nibble of SP into r. -/
def execLdRSPL (r : Sel) (s : State) : Result :=
  emitPlain s .LD (some (selOperand r)) (some (.register .SPL))

end Sys2Proof.Machine
end

