-- ==== Sys2Proof/Machine/System.lean ====
section
/-! DEFINITION. The system-control family (spec file 41_system.md): for each row the `DecodedInstruction` its rule has the
block output. No row raises an error, reads a flag or changes anything but the result. The words after a rule number are
the spec's gloss of the target CPU's instruction, for orientation only (93_implementation_defined.md G4). -/

namespace Sys2Proof.Machine

/-- `NOP5`, rule R120: no operation (5 clocks on the CPU). -/
def execNop5 (s : State) : Result :=
  emitPlain s .NOP5 none none

/-- `NOP7`, rule R121: no operation (7 clocks on the CPU). -/
def execNop7 (s : State) : Result :=
  emitPlain s .NOP7 none none

/-- `HALT`, rule R122: halt: stop the CPU clock until an interrupt. -/
def execHalt (s : State) : Result :=
  emitPlain s .HALT none none

/-- `SLP`, rule R123: sleep: stop the oscillator. -/
def execSlp (s : State) : Result :=
  emitPlain s .SLP none none

end Sys2Proof.Machine
end

