-- ==== Sys2Proof/Machine/Transfer.lean ====
section
/-! DEFINITION. The data-transfer family (spec file 43_transfer.md): for each row the `DecodedInstruction` its rule has the
block output. No row raises an error, reads a flag or changes anything but the result. The words after a rule number are
the spec's gloss of the target CPU's instruction, for orientation only (93_implementation_defined.md G4). -/

namespace Sys2Proof.Machine

/-- `LD r,i`, rule R160: load the 4-bit literal into r. -/
def execLdRI (r : Sel) (imm : Nibble) (s : State) : Result :=
  emitPlain s .LD (some (selOperand r)) (some (immNibble imm))

/-- `LD r,q`, rule R161: load q into r. -/
def execLdRQ (r : Sel) (q : Sel) (s : State) : Result :=
  emitPlain s .LD (some (selOperand r)) (some (selOperand q))

/-- `LD A,Mn`, rule R162: load A from data memory nibble Mn. -/
def execLdAMn (n : Nibble) (s : State) : Result :=
  emitPlain s .LD (some (.register .A)) (some (memName n))

/-- `LD B,Mn`, rule R163: load B from data memory nibble Mn. -/
def execLdBMn (n : Nibble) (s : State) : Result :=
  emitPlain s .LD (some (.register .B)) (some (memName n))

/-- `LD Mn,A`, rule R164: store A to data memory nibble Mn. -/
def execLdMnA (n : Nibble) (s : State) : Result :=
  emitPlain s .LD (some (memName n)) (some (.register .A))

/-- `LD Mn,B`, rule R165: store B to data memory nibble Mn. -/
def execLdMnB (n : Nibble) (s : State) : Result :=
  emitPlain s .LD (some (memName n)) (some (.register .B))

/-- `LDPX MX,i`, rule R166: store the 4-bit literal to memory at X, then increment X. -/
def execLdpxMX (imm : Nibble) (s : State) : Result :=
  emitPlain s .LDPX (some (.registerIndirect .X)) (some (immNibble imm))

/-- `LDPX r,q`, rule R167: load q into r, then increment X. -/
def execLdpxRQ (r : Sel) (q : Sel) (s : State) : Result :=
  emitPlain s .LDPX (some (selOperand r)) (some (selOperand q))

/-- `LDPY MY,i`, rule R168: store the 4-bit literal to memory at Y, then increment Y. -/
def execLdpyMY (imm : Nibble) (s : State) : Result :=
  emitPlain s .LDPY (some (.registerIndirect .Y)) (some (immNibble imm))

/-- `LDPY r,q`, rule R169: load q into r, then increment Y. -/
def execLdpyRQ (r : Sel) (q : Sel) (s : State) : Result :=
  emitPlain s .LDPY (some (selOperand r)) (some (selOperand q))

/-- `LBPX MX,l`, rule R170: store the 8-bit literal to memory at X and X+1, then add 2 to X. -/
def execLbpx (l : Byte) (s : State) : Result :=
  emitPlain s .LBPX (some (.registerIndirect .X)) (some (immByte l))

end Sys2Proof.Machine
end

