-- ==== Sys2Proof/Machine/Unmatched.lean ====
section
/-! DEFINITION. The unmatched words family (spec file 30_encoding.md): for each row the `DecodedInstruction` its rule has the
block output. No row raises an error, reads a flag or changes anything but the result. The words after a rule number are
the spec's gloss of the target CPU's instruction, for orientation only (93_implementation_defined.md G4). -/

namespace Sys2Proof.Machine

/-- `UNKNOWN`, rule R80: a word no row matches is a result, not an error; there is one class of such words (rule R82). -/
def execUnknown (_ : Word12) (s : State) : Result :=
  emit s unknownOutput

end Sys2Proof.Machine
end

