-- ==== Sys2Proof/Machine/Dispatch.lean ====
section
/-! DEFINITION. One arm per constructor of `Instr`, each one direct call of that instruction's meaning. -/

namespace Sys2Proof.Machine

def exec (i : Instr) (s : State) : Host.Outcome State Fault Refusal :=
  match i with
  | .rlcA => Sys2Proof.Machine.execRlcA s
  | .rlcB => Sys2Proof.Machine.execRlcB s
  | .rlcMX => Sys2Proof.Machine.execRlcMX s
  | .rlcMY => Sys2Proof.Machine.execRlcMY s
  | .incX => Sys2Proof.Machine.execIncX s
  | .incY => Sys2Proof.Machine.execIncY s
  | .scf => Sys2Proof.Machine.execScf s
  | .szf => Sys2Proof.Machine.execSzf s
  | .sdf => Sys2Proof.Machine.execSdf s
  | .ei => Sys2Proof.Machine.execEi s
  | .di => Sys2Proof.Machine.execDi s
  | .rdf => Sys2Proof.Machine.execRdf s
  | .rzf => Sys2Proof.Machine.execRzf s
  | .rcf => Sys2Proof.Machine.execRcf s
  | .pushXP => Sys2Proof.Machine.execPushXP s
  | .pushXH => Sys2Proof.Machine.execPushXH s
  | .pushXL => Sys2Proof.Machine.execPushXL s
  | .pushYP => Sys2Proof.Machine.execPushYP s
  | .pushYH => Sys2Proof.Machine.execPushYH s
  | .pushYL => Sys2Proof.Machine.execPushYL s
  | .pushF => Sys2Proof.Machine.execPushF s
  | .decSP => Sys2Proof.Machine.execDecSP s
  | .popXP => Sys2Proof.Machine.execPopXP s
  | .popXH => Sys2Proof.Machine.execPopXH s
  | .popXL => Sys2Proof.Machine.execPopXL s
  | .popYP => Sys2Proof.Machine.execPopYP s
  | .popYH => Sys2Proof.Machine.execPopYH s
  | .popYL => Sys2Proof.Machine.execPopYL s
  | .popF => Sys2Proof.Machine.execPopF s
  | .incSP => Sys2Proof.Machine.execIncSP s
  | .rets => Sys2Proof.Machine.execRets s
  | .ret => Sys2Proof.Machine.execRet s
  | .jpba => Sys2Proof.Machine.execJpba s
  | .halt => Sys2Proof.Machine.execHalt s
  | .slp => Sys2Proof.Machine.execSlp s
  | .nop5 => Sys2Proof.Machine.execNop5 s
  | .nop7 => Sys2Proof.Machine.execNop7 s
  | .notR r => Sys2Proof.Machine.execNotR r s
  | .ldXPr r => Sys2Proof.Machine.execLdXPr r s
  | .ldXHr r => Sys2Proof.Machine.execLdXHr r s
  | .ldXLr r => Sys2Proof.Machine.execLdXLr r s
  | .rrcR r => Sys2Proof.Machine.execRrcR r s
  | .ldYPr r => Sys2Proof.Machine.execLdYPr r s
  | .ldYHr r => Sys2Proof.Machine.execLdYHr r s
  | .ldYLr r => Sys2Proof.Machine.execLdYLr r s
  | .ldRXP r => Sys2Proof.Machine.execLdRXP r s
  | .ldRXH r => Sys2Proof.Machine.execLdRXH r s
  | .ldRXL r => Sys2Proof.Machine.execLdRXL r s
  | .ldRYP r => Sys2Proof.Machine.execLdRYP r s
  | .ldRYH r => Sys2Proof.Machine.execLdRYH r s
  | .ldRYL r => Sys2Proof.Machine.execLdRYL r s
  | .acpx r => Sys2Proof.Machine.execAcpx r s
  | .acpy r => Sys2Proof.Machine.execAcpy r s
  | .scpx r => Sys2Proof.Machine.execScpx r s
  | .scpy r => Sys2Proof.Machine.execScpy r s
  | .pushR r => Sys2Proof.Machine.execPushR r s
  | .popR r => Sys2Proof.Machine.execPopR r s
  | .ldSPHr r => Sys2Proof.Machine.execLdSPHr r s
  | .ldRSPH r => Sys2Proof.Machine.execLdRSPH r s
  | .ldSPLr r => Sys2Proof.Machine.execLdSPLr r s
  | .ldRSPL r => Sys2Proof.Machine.execLdRSPL r s
  | .adcXH imm => Sys2Proof.Machine.execAdcXH imm s
  | .adcXL imm => Sys2Proof.Machine.execAdcXL imm s
  | .adcYH imm => Sys2Proof.Machine.execAdcYH imm s
  | .adcYL imm => Sys2Proof.Machine.execAdcYL imm s
  | .cpXH imm => Sys2Proof.Machine.execCpXH imm s
  | .cpXL imm => Sys2Proof.Machine.execCpXL imm s
  | .cpYH imm => Sys2Proof.Machine.execCpYH imm s
  | .cpYL imm => Sys2Proof.Machine.execCpYL imm s
  | .addRQ r q => Sys2Proof.Machine.execAddRQ r q s
  | .adcRQ r q => Sys2Proof.Machine.execAdcRQ r q s
  | .subRQ r q => Sys2Proof.Machine.execSubRQ r q s
  | .sbcRQ r q => Sys2Proof.Machine.execSbcRQ r q s
  | .andRQ r q => Sys2Proof.Machine.execAndRQ r q s
  | .orRQ r q => Sys2Proof.Machine.execOrRQ r q s
  | .xorRQ r q => Sys2Proof.Machine.execXorRQ r q s
  | .ldpxMX imm => Sys2Proof.Machine.execLdpxMX imm s
  | .ldpyMY imm => Sys2Proof.Machine.execLdpyMY imm s
  | .ldRQ r q => Sys2Proof.Machine.execLdRQ r q s
  | .ldpxRQ r q => Sys2Proof.Machine.execLdpxRQ r q s
  | .ldpyRQ r q => Sys2Proof.Machine.execLdpyRQ r q s
  | .cpRQ r q => Sys2Proof.Machine.execCpRQ r q s
  | .fanRQ r q => Sys2Proof.Machine.execFanRQ r q s
  | .setF imm => Sys2Proof.Machine.execSetF imm s
  | .rstF imm => Sys2Proof.Machine.execRstF imm s
  | .incMn n => Sys2Proof.Machine.execIncMn n s
  | .decMn n => Sys2Proof.Machine.execDecMn n s
  | .ldMnA n => Sys2Proof.Machine.execLdMnA n s
  | .ldMnB n => Sys2Proof.Machine.execLdMnB n s
  | .ldAMn n => Sys2Proof.Machine.execLdAMn n s
  | .ldBMn n => Sys2Proof.Machine.execLdBMn n s
  | .pset p => Sys2Proof.Machine.execPset p s
  | .addRI r imm => Sys2Proof.Machine.execAddRI r imm s
  | .adcRI r imm => Sys2Proof.Machine.execAdcRI r imm s
  | .andRI r imm => Sys2Proof.Machine.execAndRI r imm s
  | .orRI r imm => Sys2Proof.Machine.execOrRI r imm s
  | .xorRI r imm => Sys2Proof.Machine.execXorRI r imm s
  | .sbcRI r imm => Sys2Proof.Machine.execSbcRI r imm s
  | .fanRI r imm => Sys2Proof.Machine.execFanRI r imm s
  | .cpRI r imm => Sys2Proof.Machine.execCpRI r imm s
  | .ldRI r imm => Sys2Proof.Machine.execLdRI r imm s
  | .jp step => Sys2Proof.Machine.execJp step s
  | .retd l => Sys2Proof.Machine.execRetd l s
  | .jpC step => Sys2Proof.Machine.execJpC step s
  | .jpNC step => Sys2Proof.Machine.execJpNC step s
  | .call step => Sys2Proof.Machine.execCall step s
  | .calz step => Sys2Proof.Machine.execCalz step s
  | .jpZ step => Sys2Proof.Machine.execJpZ step s
  | .jpNZ step => Sys2Proof.Machine.execJpNZ step s
  | .ldY y => Sys2Proof.Machine.execLdY y s
  | .lbpx l => Sys2Proof.Machine.execLbpx l s
  | .ldX x => Sys2Proof.Machine.execLdX x s
  | .unknown w => Sys2Proof.Machine.execUnknown w s

end Sys2Proof.Machine
end

