-- ==== Sys2Proof/Machine/Environment.lean ====
section
/-! DEFINITION. The environment's side of a call: the Page State Index and its contract (10_state.md rules R29 to R33),
and what the environment does to the inputs. Only the contract is modelled; the index's implementation is out of scope
(00_scope.md section 3). -/

namespace Sys2Proof.Machine

/-! ### The Page State Index -/

/-- `insert(address, page_value)`: the first value inserted at an address stays (rule R31). The list stays sorted. -/
def insertRecord (a : WordAddr) (v : PageValue) : List PageRecord → List PageRecord
  | [] => [⟨a, v⟩]
  | r :: rest =>
    if a.toNat < r.address.toNat then ⟨a, v⟩ :: r :: rest
    else if a = r.address then r :: rest
    else r :: insertRecord a v rest

/-- The record with the greatest address at or below `x`, if there is one (rule R32). -/
def greatestAtOrBelow (x : WordAddr) : List PageRecord → Option PageRecord
  | [] => none
  | r :: rest =>
    match greatestAtOrBelow x rest with
    | some best => if r.address.toNat ≤ x.toNat ∧ best.address.toNat < r.address.toNat then some r else some best
    | none => if r.address.toNat ≤ x.toNat then some r else none

/-- The default record: bank 0, page 1; its address is unspecified (rule R32). -/
def defaultRecord : PageRecord := ⟨Config.defaultRecordAddress, Config.defaultPageValue⟩

/-- `query(x)`: the governing record or the default (rule R32). Never an error. -/
def query (ix : List PageRecord) (x : WordAddr) : PageRecord := (greatestAtOrBelow x ix).getD defaultRecord

/-! ### Before and after a call -/

/-- The page value that `page_rec` carries in a call: once the index is finished, `query(address).page_value` (rule R29);
before that whatever the environment drives (70_reset_and_hazards.md rule R293, step 2: "any page_rec"). -/
def boundPageRec (s : State) : PageValue :=
  match s.phase with
  | .building => s.pageRec
  | .finished => (query s.index s.address).pageValue

/-- Drive `page_rec` for the call (rule R29). -/
def State.bindPageRec (s : State) : State := { s with pageRec := boundPageRec s }

/-- The page value of a decoded page-setting instruction: the payload of its first operand (rule R293, step 2). -/
def psetPayload (d : DecodedInstruction) : Option PageValue :=
  match d.mnemonic, d.operand1 with
  | .PSET, some (.immediate v) => some (v.setWidth 5)
  | _, _ => none

/-- The index after a call: while it is being built, a decoded `PSET` inserts the record of its own address (rules R33,
R293 step 2); a finished index is read-only (rule R33). -/
def indexAfterCall (s : State) : List PageRecord :=
  match s.phase, s.result.bind psetPayload with
  | .building, some v => insertRecord s.address v s.index
  | _, _ => s.index

/-- The environment's reaction to a call's result. -/
def State.recordPset (s : State) : State := { s with index := indexAfterCall s }

/-- The environment's reaction to an outcome: none, unless the call produced a result. -/
def afterCall : Result → Result
  | .next s => .next s.recordPset
  | .fault f => .fault f
  | .refused r => .refused r

/-! ### What the environment does between calls -/

/-- Present a container and its word-address (rule R12). -/
def State.present (s : State) (bytes : List Byte) (address : WordAddr) : State :=
  { s with bytes := bytes, address := address }

/-- Drive `page_rec` by hand (rule R12); once the index is finished the binding of rule R29 overrides it. -/
def State.drivePageRec (s : State) (v : PageValue) : State := { s with pageRec := v }

/-- Start over with an empty index (rule R293, step 1). -/
def State.startIndex (s : State) : State := { s with index := [], phase := .building }

/-- Freeze the index (rule R293, step 3; 20_memory.md rule R50). -/
def State.finishIndex (s : State) : State := { s with phase := .finished }

end Sys2Proof.Machine
end

