-- ==== Sys2Proof/Machine/Step.lean ====
section
/-! DEFINITION. One step is one call of the block in its environment: `page_rec` is bound, the presented bytes are decoded,
the instruction's meaning gives the result, and while the index is being built a decoded `PSET` enters it. -/

namespace Sys2Proof.Machine

/-- One call (60_exceptions.md rule R275), with the environment's binding before it (10_state.md rule R29) and its
reaction after it (rule R33). -/
def step (s : State) : Host.Outcome State Fault Refusal :=
  match decode s.bytes with
  | .error e => raise e
  | .ok i => afterCall (exec i s.bindPageRec)

/-- `s` with the container of the word `w` presented as the call's bytes; nothing else changes (log entry 5). -/
def State.withFetchWord (s : State) (nbits w : Nat) : State := { s with bytes := tableWordBytes nbits w }

end Sys2Proof.Machine
end

