-- ==== Sys2Proof/Machine/Boot.lean ====
section
/-! DEFINITION. The environment's procedure: the pre-pass and freeze of 70_reset_and_hazards.md rule R293, and the
two-argument call `decode_src` of 10_state.md rule R29 over a finished index. -/

namespace Sys2Proof.Machine

/-- An image: the word-addresses it holds and the bytes at each, in the order of the sweep (rule R293: "in any order"). -/
abbrev Image := List (WordAddr × List Byte)

/-- Call the block once for each word of an image, in turn; an error ends the sweep. -/
def callAll : Image → State → Result
  | [], s => .next s
  | (a, bytes) :: rest, s =>
    match step (s.present bytes a) with
    | .next t => callAll rest t
    | .fault f => .fault f
    | .refused r => .refused r

/-- Rule R293, steps 1 to 3: an empty index, one call per word of the image, then freeze. -/
def boot (image : Image) (s : State) : Result :=
  match callAll image s.startIndex with
  | .next t => .next t.finishIndex
  | .fault f => .fault f
  | .refused r => .refused r

/-- `decode_src(bytes, address)` (rule R29): a call with `page_rec` taken from the index. "Index finished" is its
precondition (rule R294); before that it is refused (93_implementation_defined.md U6). -/
def decodeSrc (bytes : List Byte) (address : WordAddr) (s : State) : Result :=
  match s.phase with
  | .building => .refused .indexNotFinished
  | .finished => step (s.present bytes address)

end Sys2Proof.Machine
end

