-- ==== Sys2Proof/Machine/Display.lean ====
section
/-! DEFINITION. What the spec fixes of display (30_encoding.md rules R90 to R92), so that the values the block emits can
be read as text: spellings, which values are shown in hexadecimal, the doubling of addresses, and that a comment follows
the operands. Separator, digit count, radix prefix and the comment's wording are not given and are left out (log entry
17). -/

namespace Sys2Proof.Machine

/-! ### Spelling -/

/-- The assembler spelling of a register selector (rule R92). -/
def selSpelling : Sel → String
  | .a => "A"
  | .b => "B"
  | .mx => "MX"
  | .my => "MY"

/-- The name of a register (10_state.md rule R20). -/
def regSpelling : RegName → String
  | .A => "A"
  | .B => "B"
  | .X => "X"
  | .Y => "Y"
  | .XP => "XP"
  | .XH => "XH"
  | .XL => "XL"
  | .YP => "YP"
  | .YH => "YH"
  | .YL => "YL"
  | .SP => "SP"
  | .SPH => "SPH"
  | .SPL => "SPL"
  | .F => "F"
  | .M n => "M" ++ String.singleton ("0123456789ABCDEF".toList.getD n.toNat '0')

/-- The name of a condition (rule R21). -/
def condSpelling : CondName → String
  | .C => "C"
  | .NC => "NC"
  | .Z => "Z"
  | .NZ => "NZ"

/-- The name of a mnemonic (10_state.md rule R18). -/
def mnemonicSpelling : Mnemonic → String
  | .UNKNOWN => "UNKNOWN"
  | .ACPX => "ACPX"
  | .ACPY => "ACPY"
  | .ADC => "ADC"
  | .ADD => "ADD"
  | .AND => "AND"
  | .CALL => "CALL"
  | .CALZ => "CALZ"
  | .CP => "CP"
  | .DEC => "DEC"
  | .DI => "DI"
  | .EI => "EI"
  | .FAN => "FAN"
  | .HALT => "HALT"
  | .INC => "INC"
  | .JP => "JP"
  | .JPBA => "JPBA"
  | .LBPX => "LBPX"
  | .LD => "LD"
  | .LDPX => "LDPX"
  | .LDPY => "LDPY"
  | .NOP5 => "NOP5"
  | .NOP7 => "NOP7"
  | .NOT => "NOT"
  | .OR => "OR"
  | .POP => "POP"
  | .PSET => "PSET"
  | .PUSH => "PUSH"
  | .RCF => "RCF"
  | .RDF => "RDF"
  | .RET => "RET"
  | .RETD => "RETD"
  | .RETS => "RETS"
  | .RLC => "RLC"
  | .RRC => "RRC"
  | .RST => "RST"
  | .RZF => "RZF"
  | .SBC => "SBC"
  | .SCF => "SCF"
  | .SCPX => "SCPX"
  | .SCPY => "SCPY"
  | .SDF => "SDF"
  | .SET => "SET"
  | .SLP => "SLP"
  | .SUB => "SUB"
  | .SZF => "SZF"
  | .XOR => "XOR"

/-! ### Tokens -/

/-- One piece of a display: a symbolic name, a number shown in hexadecimal, or the comment, whose wording the spec does not
give (rule R90, log entry 17). -/
inductive DisplayToken where
  | symbol (s : String)
  | hex (v : Nat)
  | comment (c : Comment)
  deriving DecidableEq, Repr

/-- An operand on display: names are symbolic, immediates stand as they are, and an address is doubled (rules R90 to
R92). -/
def displayOperand : Operand → DisplayToken
  | .immediate v => .hex v.toNat
  | .address a => .hex (2 * a.toNat)
  | .conditionName c => .symbol (condSpelling c)
  | .register n => .symbol (regSpelling n)
  | .registerIndirect .X => .symbol (selSpelling .mx)
  | .registerIndirect .Y => .symbol (selSpelling .my)

/-- A result on display: the mnemonic, then its operands in the order of their slots (decision D13), then its comment if
it has one (rule R90). -/
def displayTokens (d : DecodedInstruction) : List DisplayToken :=
  .symbol (mnemonicSpelling d.mnemonic) :: (d.operand1.toList ++ d.operand2.toList).map displayOperand ++
    d.comment.toList.map .comment

/-- The targets of a result on display, doubled (rule R91). -/
def displayTargets (d : DecodedInstruction) : List (Option Nat) :=
  d.branchEdges.map fun e => e.target.map fun t => (displayAddress t).toNat

/-! ### Aliases -/

/-- The general form an alias is also an encoding of, by the table of rule R92; `RLC` is no alias of another row. -/
def aliasOf : Instr → Option Instr
  | .scf => some (.setF 0x1)
  | .szf => some (.setF 0x2)
  | .sdf => some (.setF 0x4)
  | .ei => some (.setF 0x8)
  | .rcf => some (.rstF 0xE)
  | .rzf => some (.rstF 0xD)
  | .rdf => some (.rstF 0xB)
  | .di => some (.rstF 0x7)
  | .notR r => some (.xorRI r 0xF)
  | .incX => some (.ldpxRQ .a .a)
  | .incY => some (.ldpyRQ .a .a)
  | .rlcA | .rlcB | .rlcMX | .rlcMY | .pushXP | .pushXH | .pushXL | .pushYP | .pushYH | .pushYL | .pushF | .decSP
  | .popXP | .popXH | .popXL | .popYP | .popYH | .popYL | .popF | .incSP | .rets | .ret | .jpba | .halt | .slp
  | .nop5 | .nop7 | .ldXPr _ | .ldXHr _ | .ldXLr _ | .rrcR _ | .ldYPr _ | .ldYHr _ | .ldYLr _ | .ldRXP _
  | .ldRXH _ | .ldRXL _ | .ldRYP _ | .ldRYH _ | .ldRYL _ | .acpx _ | .acpy _ | .scpx _ | .scpy _ | .pushR _
  | .popR _ | .ldSPHr _ | .ldRSPH _ | .ldSPLr _ | .ldRSPL _ | .adcXH _ | .adcXL _ | .adcYH _ | .adcYL _ | .cpXH _
  | .cpXL _ | .cpYH _ | .cpYL _ | .addRQ _ _ | .adcRQ _ _ | .subRQ _ _ | .sbcRQ _ _ | .andRQ _ _ | .orRQ _ _
  | .xorRQ _ _ | .ldpxMX _ | .ldpyMY _ | .ldRQ _ _ | .ldpxRQ _ _ | .ldpyRQ _ _ | .cpRQ _ _ | .fanRQ _ _ | .setF _
  | .rstF _ | .incMn _ | .decMn _ | .ldMnA _ | .ldMnB _ | .ldAMn _ | .ldBMn _ | .pset _ | .addRI _ _ | .adcRI _ _
  | .andRI _ _ | .orRI _ _ | .xorRI _ _ | .sbcRI _ _ | .fanRI _ _ | .cpRI _ _ | .ldRI _ _ | .jp _ | .retd _
  | .jpC _ | .jpNC _ | .call _ | .calz _ | .jpZ _ | .jpNZ _ | .ldY _ | .lbpx _ | .ldX _ | .unknown _ => none

end Sys2Proof.Machine
end

