-- ==== Sys2Proof/Machine/RuleTable.lean ====
section
/-! DEFINITION. The block as a function of its three inputs, read off the rule list: `decode(bytes, address, page_rec)`
of 10_state.md rule R12, generic in `RULES`, `CALL_PAGE_SOURCE` and `CALZ_PAGE` (00_scope.md rule R2). The machine runs
the instruction rules R104 to R255 one by one; this form runs the columns of rule R70. -/

namespace Sys2Proof.Machine

/-- The edge list of an edge class (rule R23). -/
def edgesOf (p : Params) (c : EdgeClass) (address : WordAddr) (pageRec : PageValue) (step : Byte) : List BranchEdge :=
  match c with
  | .none => []
  | .jp => jpEdges pageRec step
  | .jpcc => jpccEdges address pageRec step
  | .call => callEdges p address pageRec step
  | .calz => calzEdges p address step
  | .indirect => indirectEdges
  | .ret => retEdges

/-- What a row outputs for a word it matches: its columns, built (rule R70). -/
def rowAction (p : Params) (row : RowColumns) (w : Word12) (address : WordAddr) (pageRec : PageValue) :
    DecodedInstruction :=
  ⟨row.mnemonic, row.operand1.map (buildOperand w), row.operand2.map (buildOperand w),
    edgesOf p row.edges address pageRec (combinedLow8 w), row.comment⟩

/-- What the block outputs for a word: its first matching row's action, or `UNKNOWN` (rules R68, R80). -/
def decodedWord (rules : List Row) (p : Params) (w : Word12) (address : WordAddr) (pageRec : PageValue) :
    DecodedInstruction :=
  match decodeRow rules w with
  | some row => rowAction p row.toRowColumns w address pageRec
  | none => unknownOutput

/-- The block under any rule list and parameters (rules R11, R12, R275). -/
def decodeCallWith (rules : List Row) (p : Params) (bytes : List Byte) (address : WordAddr) (pageRec : PageValue) :
    Except DecodeError DecodedInstruction :=
  match wordOf bytes with
  | .error e => .error e
  | .ok w => .ok (decodedWord rules p w address pageRec)

/-- The block of this spec: `decode(bytes, address, page_rec)` (rule R12). -/
def decodeCall (bytes : List Byte) (address : WordAddr) (pageRec : PageValue) : Except DecodeError DecodedInstruction :=
  decodeCallWith RULES Config.params bytes address pageRec

end Sys2Proof.Machine
end

