-- ==== Sys2Proof/Machine/Ports.lean ====
section
/-! DEFINITION. The block on the ports of 10_state.md rule R39 (decisions D5, D15): another presentation of the same
function, on which no other rule depends. Port bits that carry no meaning take free values (log entry 10). -/

namespace Sys2Proof.Machine

/-! ### Codes -/

/-- The mnemonics in the order of their codes: `UNKNOWN = 0`, `ACPX = 1`, ..., `XOR = 46`. -/
def mnemonicOrder : List Mnemonic :=
  [.UNKNOWN, .ACPX, .ACPY, .ADC, .ADD, .AND, .CALL, .CALZ, .CP, .DEC, .DI, .EI, .FAN, .HALT, .INC, .JP, .JPBA, .LBPX] ++
  [.LD, .LDPX, .LDPY, .NOP5, .NOP7, .NOT, .OR, .POP, .PSET, .PUSH, .RCF, .RDF, .RET, .RETD, .RETS, .RLC, .RRC, .RST] ++
  [.RZF, .SBC, .SCF, .SCPX, .SCPY, .SDF, .SET, .SLP, .SUB, .SZF, .XOR]

/-- `out_mnemonic`: the index of the mnemonic. -/
def mnemonicCode (m : Mnemonic) : BitVec 6 := BitVec.ofNat 6 (mnemonicOrder.idxOf m)

/-- `in_nbytes`: 0, 1, or 2 for "two or more". -/
def nbytesCode : NBytes → BitVec 2
  | .zero => 0
  | .one => 1
  | .twoOrMore => 2

/-- Register payload: `A` = 0 to `F` = 13, then `M0` = 16 to `MF` = 31. -/
def regCode : RegName → BitVec 16
  | .A => 0
  | .B => 1
  | .X => 2
  | .Y => 3
  | .XP => 4
  | .XH => 5
  | .XL => 6
  | .YP => 7
  | .YH => 8
  | .YL => 9
  | .SP => 10
  | .SPH => 11
  | .SPL => 12
  | .F => 13
  | .M n => 16 + n.setWidth 16

/-- Condition payload: `C` = 0, `NC` = 1, `Z` = 2, `NZ` = 3. -/
def condCode : CondName → BitVec 16
  | .C => 0
  | .NC => 1
  | .Z => 2
  | .NZ => 3

/-- Index-register payload: `X` = 0, `Y` = 1. -/
def indexCode : IndexName → BitVec 16
  | .X => 0
  | .Y => 1

/-- Edge kinds 0 to 5 in the order of rule R23. -/
def edgeCode : EdgeKind → BitVec 3
  | .unconditional => 0
  | .trueBranch => 1
  | .falseBranch => 2
  | .indirect => 3
  | .callDestination => 4
  | .functionReturn => 5

/-- An operand's tag and payload; the payload of an absent operand is free. -/
def operandPort (free : OperandPort) : Option Operand → OperandPort
  | none => ⟨0, free.payload⟩
  | some (.immediate v) => ⟨1, v.setWidth 16⟩
  | some (.address a) => ⟨2, a⟩
  | some (.conditionName c) => ⟨3, condCode c⟩
  | some (.register n) => ⟨4, regCode n⟩
  | some (.registerIndirect n) => ⟨5, indexCode n⟩

/-- An edge slot; an unused slot, and the target of an edge without one, are free. -/
def edgePort (free : EdgePort) : Option BranchEdge → EdgePort
  | none => free
  | some ⟨k, some t⟩ => ⟨edgeCode k, true, t⟩
  | some ⟨k, none⟩ => ⟨edgeCode k, false, free.target⟩

/-- A result on the output ports. -/
def resultPorts (free : PortOut) (d : DecodedInstruction) : PortOut :=
  { invalidInput := false
    mnemonic := mnemonicCode d.mnemonic
    op1 := operandPort free.op1 d.operand1
    op2 := operandPort free.op2 d.operand2
    nEdges := BitVec.ofNat 2 d.branchEdges.length
    edge0 := edgePort free.edge0 d.branchEdges[0]?
    edge1 := edgePort free.edge1 d.branchEdges[1]?
    comment := d.comment.isSome }

/-! ### The block on its ports -/

/-- The word on the input bus, if there is one: of one byte, bits 15:8 of the bus are ignored. -/
def portWord (i : PortIn) : Option Word12 :=
  match i.nbytes with
  | .zero => none
  | .one => some (i.container.extractLsb' 0 8 |>.setWidth 12)
  | .twoOrMore => some (rawWord i.container)

/-- The block, combinationally (70_reset_and_hazards.md rule R290): outputs from the inputs alone. -/
def portBlock (i : PortIn) : PortOut :=
  let free := Config.freePortOut i
  match portWord i with
  | none => { free with invalidInput := true }
  | some w => resultPorts free (decodedWord RULES Config.params w i.address i.pageRec)

/-- The bus carries the call's inputs: the saturating count, the last two bytes, or the one byte in bits 7:0 with bits
15:8 at any value. -/
def Carries (i : PortIn) (bytes : List Byte) (address : WordAddr) (pageRec : PageValue) : Prop :=
  i.address = address ∧ i.pageRec = pageRec ∧
  match bytes with
  | [] => i.nbytes = .zero
  | [b] => i.nbytes = .one ∧ i.container.extractLsb' 0 8 = b
  | b :: b' :: rest => i.nbytes = .twoOrMore ∧ containerOf (b :: b' :: rest) = .ok i.container

/-! ### Reading the output ports -/

/-- The register a payload stands for. -/
def readReg (p : BitVec 16) : Option RegName :=
  match p.toNat with
  | 0 => some .A
  | 1 => some .B
  | 2 => some .X
  | 3 => some .Y
  | 4 => some .XP
  | 5 => some .XH
  | 6 => some .XL
  | 7 => some .YP
  | 8 => some .YH
  | 9 => some .YL
  | 10 => some .SP
  | 11 => some .SPH
  | 12 => some .SPL
  | 13 => some .F
  | n => if 16 ≤ n ∧ n < 32 then some (.M (BitVec.ofNat 4 n)) else none

/-- The operand an operand port shows; `none` where its tag or payload is no code of rule R39. -/
def readOperand (p : OperandPort) : Option (Option Operand) :=
  match p.tag.toNat with
  | 0 => some none
  | 1 => if p.payload.toNat < 256 then some (some (.immediate (p.payload.setWidth 8))) else none
  | 2 => some (some (.address p.payload))
  | 3 =>
    match p.payload.toNat with
    | 0 => some (some (.conditionName .C))
    | 1 => some (some (.conditionName .NC))
    | 2 => some (some (.conditionName .Z))
    | 3 => some (some (.conditionName .NZ))
    | _ => none
  | 4 => (readReg p.payload).map fun n => some (.register n)
  | 5 =>
    match p.payload.toNat with
    | 0 => some (some (.registerIndirect .X))
    | 1 => some (some (.registerIndirect .Y))
    | _ => none
  | _ => none

/-- The edge an edge port shows. -/
def readEdge (p : EdgePort) : Option BranchEdge :=
  let target := if p.present then some p.target else none
  match p.kind.toNat with
  | 0 => some ⟨.unconditional, target⟩
  | 1 => some ⟨.trueBranch, target⟩
  | 2 => some ⟨.falseBranch, target⟩
  | 3 => some ⟨.indirect, target⟩
  | 4 => some ⟨.callDestination, target⟩
  | 5 => some ⟨.functionReturn, target⟩
  | _ => none

/-- The edges the output ports show: `out_n_edges` slots, in order. -/
def readEdges (o : PortOut) : Option (List BranchEdge) :=
  match o.nEdges.toNat with
  | 0 => some []
  | 1 => (readEdge o.edge0).map fun e => [e]
  | 2 => (readEdge o.edge0).bind fun e => (readEdge o.edge1).map fun e' => [e, e']
  | _ => none

/-- The result the output ports show; `none` for an invalid call or a code outside rule R39. -/
def readPorts (o : PortOut) : Option DecodedInstruction :=
  if o.invalidInput then none
  else
    match mnemonicOrder[o.mnemonic.toNat]?, readOperand o.op1, readOperand o.op2, readEdges o with
    | some m, some op1, some op2, some edges =>
      some ⟨m, op1, op2, edges, if o.comment then some .skipOnReturn else none⟩
    | _, _, _, _ => none

end Sys2Proof.Machine
end

