-- ==== Sys2Proof/Safety.lean ====
section
/-! DEFINITION. What a claim may ask of a state, a result or an image, in the spec's own terms. -/

namespace Sys2Proof.Safety

open Sys2Proof.Machine

/-- The edge list has one of the seven shapes of 10_state.md rule R23, with the False edge only behind a True edge (rule
R24). -/
def EdgesWf : List BranchEdge → Prop
  | [] => True
  | [⟨.unconditional, some _⟩] => True
  | [⟨.trueBranch, some _⟩, ⟨.falseBranch, some _⟩] => True
  | [⟨.callDestination, some _⟩] => True
  | [⟨.indirect, none⟩] => True
  | [⟨.functionReturn, none⟩] => True
  | _ => False

/-- Every target but a False edge's lies in `0x0000 .. 0x1FFF` (20_memory.md rule R46, 10_state.md rule R36). -/
def TargetsAssembled (edges : List BranchEdge) : Prop :=
  ∀ e ∈ edges, e.kind ≠ .falseBranch → ∀ t, e.target = some t → t.toNat < 0x2000

/-- What rules R17, R23, R24, R25, R46 and R65 say of every `DecodedInstruction` the block outputs. -/
structure ResultWf (d : DecodedInstruction) : Prop where
  /-- `operand2` is present only if `operand1` is (rule R17) -/
  operandsInOrder : d.operand2.isSome → d.operand1.isSome
  /-- no edge, one, or a True and False pair (rules R23, R24) -/
  edgesWf : EdgesWf d.branchEdges
  /-- assembled targets have 13 bits (rule R46) -/
  targets : TargetsAssembled d.branchEdges
  /-- the comment is set by `RETS` alone (rule R25) -/
  commentOnRets : d.comment.isSome ↔ d.mnemonic = .RETS
  /-- an address operand is the 8-bit step, `0x0000 .. 0x00FF` (30_encoding.md rule R65) -/
  stepOperand : ∀ a, d.operand1 = some (.address a) ∨ d.operand2 = some (.address a) → a.toNat < 0x100

/-- The states a run of calls keeps to: the index in canonical form (rule R30) and the last result as the rules shape it. -/
structure Inv (s : State) : Prop where
  indexWf : IndexWf s.index
  resultWf : ∀ d, s.result = some d → ResultWf d

/-- The number of 1 bits of a mask (30_encoding.md rule R69). -/
def maskWeight (mask : Word12) : Nat := (List.range 12).countP fun k => mask.getLsbD k

/-- The eleven pairs of rows that can match the same word, by priority, the earlier first (30_encoding.md rule R71). -/
def overlaps : List (Nat × Nat) :=
  [(5, 80), (6, 81), (7, 84), (8, 84), (9, 84), (10, 84), (11, 85), (12, 85), (13, 85), (14, 85), (38, 97)]

/-- The edge list of a word, by its nibbles and three full words (rules R23, R24, R100 to R103). -/
def edgesByWord (w : Word12) (address : WordAddr) (pageRec : PageValue) : List BranchEdge :=
  let step := combinedLow8 w
  if upper w = 0x0 then [⟨.unconditional, some (0#19 ++ pageRec ++ step)⟩]
  else if upper w = 0x2 ∨ upper w = 0x3 ∨ upper w = 0x6 ∨ upper w = 0x7 then
    [⟨.trueBranch, some (0#19 ++ pageRec ++ step)⟩, ⟨.falseBranch, some (address + 1)⟩]
  else if upper w = 0x4 then [⟨.callDestination, some ((address &&& 0x1F00) ||| step.setWidth 32)⟩]
  else if upper w = 0x5 then [⟨.callDestination, some ((address &&& 0x1000) ||| step.setWidth 32)⟩]
  else if w = 0xFE8 then [⟨.indirect, none⟩]
  else if upper w = 0x1 ∨ w = 0xFDE ∨ w = 0xFDF then [⟨.functionReturn, none⟩]
  else []

/-- `r` governs `x` in a set of records: it is the one of greatest address at or below `x` (rule R32). -/
def Governs (ix : List PageRecord) (x : WordAddr) (r : PageRecord) : Prop :=
  r ∈ ix ∧ r.address.toNat ≤ x.toNat ∧ ∀ r' ∈ ix, r'.address.toNat ≤ x.toNat → r'.address.toNat ≤ r.address.toNat

/-- An image the environment may sweep: each word-address once, and bytes at each (70_reset_and_hazards.md rule R293). -/
def ImageWf (image : Image) : Prop :=
  (image.map Prod.fst).Nodup ∧ ∀ e ∈ image, e.2 ≠ []

/-- The image holds the page-setting instruction `PSET p` at `a` (10_state.md rule R33). -/
def HoldsPset (image : Image) (a : WordAddr) (p : PageValue) : Prop :=
  ∃ bytes, (a, bytes) ∈ image ∧ decode bytes = .ok (.pset p)

/-- The page value that governs the address `a` in an image (10_state.md rules R32, R33; 70_reset_and_hazards.md rule
R296): that of the `PSET` of greatest address at or below `a`, or the default where there is none. -/
def PageAt (image : Image) (a : WordAddr) (p : PageValue) : Prop :=
  (∃ a', HoldsPset image a' p ∧ a'.toNat ≤ a.toNat ∧
    ∀ a'' p', HoldsPset image a'' p' → a''.toNat ≤ a.toNat → a''.toNat ≤ a'.toNat) ∨
  (p = 0x01 ∧ ∀ a' p', HoldsPset image a' p' → a.toNat < a'.toNat)

end Sys2Proof.Safety
end

