-- ==== Sys2Proof/Certificates/Slice0/Obligations.lean ====
section
/-! DEFINITION. The statements for the provers. A statement marked 'stated' in OBLIGATIONS.json formalises the rules it
cites; the others say what their docstrings name. Rows of the rule list other than `JP s` and `PSET p`, and the choices
marked D<n>, are decisions of the spec (92_eei_decisions.md), which its numbered rules state. -/

open Sys2Proof Sys2Proof.Machine Sys2Proof.Safety

/-- At State.reset the Page State Index holds no record, page_rec carries 0x01, and a query at any address answers
page value 0x01 (the table of initial values of the environment; log entry 7 on page_rec). That no container is
presented, that address is 0 and that there is no result are the model's choices (log entries 2, 3, 4) and are not
stated. -/
def Obligations.ResetHasAnEmptyIndexAndTheDefaultPage : Prop :=
  State.reset.index = [] ∧ State.reset.pageRec = 0x01 ∧ ∀ x, (query State.reset.index x).pageValue = 0x01

/-- When the bytes decode to i, step is exec of i on the state with page_rec bound, followed by the environment's
reaction. Binding changes nothing while the index is being built and drives query(address).page_value once it is
finished. The reaction inserts the record of a decoded PSET while the index is being built and changes nothing
otherwise. That a step takes in the environment's binding and reaction is the model's arrangement (log entry 6). -/
def Obligations.StepRunsTheDecodedInstruction : Prop :=
  (∀ (s : State) (i : Instr), decode s.bytes = .ok i → step s = afterCall (exec i s.bindPageRec)) ∧
  (∀ s : State, s.phase = .building → s.bindPageRec = s) ∧
  (∀ s : State, s.phase = .finished → s.bindPageRec = { s with pageRec := (query s.index s.address).pageValue }) ∧
  (∀ (t : State) (p : PageValue) (op2 : Option Operand) (edges : List BranchEdge) (c : Option Comment),
    t.phase = .building → t.result = some ⟨.PSET, some (.immediate (p.setWidth 8)), op2, edges, c⟩ →
    afterCall (.next t) = .next { t with index := insertRecord t.address p t.index }) ∧
  (∀ (t : State) (d : DecodedInstruction), t.result = some d → d.mnemonic ≠ .PSET → afterCall (.next t) = .next t) ∧
  (∀ t : State, t.phase = .finished → afterCall (.next t) = .next t)

/-- Word 0x023 is JP 0x23, 0xE41 is PSET 1, 0xFFB is NOP5, 0xA45 is CP XH,5, 0xE6F is LDPX MX,0xF, 0xF5C is RST F,0xC,
0xFE5 is LD B,SPH, 0xABC is SBC MY,A, 0xD1F is NOT B, and 0xED0 matches no row. -/
def Obligations.SampleWordsDecodeAsTheirEncodingsSay : Prop :=
  decodeWord 0x023 = .jp 0x23 ∧ decodeWord 0xE41 = .pset 0x01 ∧ decodeWord 0xFFB = .nop5 ∧ decodeWord 0xA45 = .cpXH 0x5 ∧
  decodeWord 0xE6F = .ldpxMX 0xF ∧ decodeWord 0xF5C = .rstF 0xC ∧ decodeWord 0xFE5 = .ldRSPH .b ∧
  decodeWord 0xABC = .sbcRQ .my .a ∧ decodeWord 0xD1F = .notR .b ∧ decodeWord 0xED0 = .unknown 0xED0

/-- For every instruction of the table, with every operand at every value its encoding admits, decode of its encoded
container is the instruction itself. -/
def Obligations.DecodeReadsBackEveryEncodedInstruction : Prop :=
  ∀ i : Instr, i.wellFormed = true → decode (encodeBytes i) = .ok i

/-- For any bytes that decode to i, i is well-formed and its encoding is the 12-bit word of those bytes, so no bit of
the word is dropped and no word is read as another row. -/
def Obligations.DecodedInstructionsEncodeBackToTheirWord : Prop :=
  ∀ (bytes : List Byte) (i : Instr), decode bytes = .ok i → i.wellFormed = true ∧ wordOf bytes = .ok (encode i)

/-- Every row has match & ~mask = 0 and hits w exactly when w & mask = match. Rows are sorted by the number of 1 bits
of the mask, most first, ties by ascending match; the weights that occur are 12, 10, 8, 7, 6, 4, weight 10 is that of
the masks 0xFCF and 0xFFC alone, and the resulting index is the priority. The order is the spec's own decision D4. -/
def Obligations.RulesStandInOrderOfMaskWeight : Prop :=
  (∀ row ∈ RULES, row.mtch &&& ~~~row.mask = 0) ∧
  (∀ row ∈ RULES, ∀ w, row.hits w = true ↔ w &&& row.mask = row.mtch) ∧
  RULES.Pairwise (fun a b => maskWeight b.mask < maskWeight a.mask ∨
    (maskWeight a.mask = maskWeight b.mask ∧ a.mtch.toNat < b.mtch.toNat)) ∧
  (RULES.map fun row => maskWeight row.mask).dedup = [12, 10, 8, 7, 6, 4] ∧
  (∀ row ∈ RULES, maskWeight row.mask = 10 ↔ row.mask = 0xFCF ∨ row.mask = 0xFFC) ∧
  RULES.map (fun row => row.prio) = List.range' 1 112

/-- For any rule list, a word decodes by a row that hits it and has no hitting row before it; if no row of the list
hits it, it decodes to UNKNOWN. -/
def Obligations.FirstMatchingRowWins : Prop :=
  ∀ (rules : List Row) (w : Word12),
    (∀ (before after : List Row) (row : Row), rules = before ++ row :: after → row.hits w = true →
      (∀ r ∈ before, r.hits w = false) → decodeRow rules w = some row ∧ decodeWordWith rules w = row.build w) ∧
    ((∀ r ∈ rules, r.hits w = false) → decodeRow rules w = none ∧ decodeWordWith rules w = .unknown w)

/-- Two rows of the list, the first of lower priority number, hit a common word exactly when they are one of the
eleven pairs of the overlap table; then every word the earlier hits the later hits too, and some word the later hits
the earlier does not. The spec marks this as derived from its rule list. -/
def Obligations.ElevenPairsOfRowsOverlapAndNoOther : Prop :=
  ∀ a ∈ RULES, ∀ b ∈ RULES, a.prio < b.prio →
    ((∃ w, a.hits w = true ∧ b.hits w = true) ↔ (a.prio, b.prio) ∈ overlaps) ∧
    ((a.prio, b.prio) ∈ overlaps →
      (∀ w, a.hits w = true → b.hits w = true) ∧ ∃ w, b.hits w = true ∧ a.hits w = false)

/-- For every reordering of the rule list in which each earlier row of an overlapping pair still stands before its
later row, every byte sequence decodes as under the priority order. -/
def Obligations.AnyOrderThatKeepsTheOverlapsDecodesAlike : Prop :=
  ∀ rules : List Row, rules.Perm RULES →
    (∀ a ∈ RULES, ∀ b ∈ RULES, (a.prio, b.prio) ∈ overlaps → List.Sublist [a, b] rules) →
    ∀ bytes : List Byte, (wordOf bytes).map (decodeWordWith rules) = decode bytes

/-- For any bytes, looking the word up by upper, then middle, then lower nibble gives the instruction of the first
matching rule. -/
def Obligations.NibbleTableDecodesAlike : Prop :=
  ∀ bytes : List Byte, (wordOf bytes).map decodeByNibbles = decode bytes

/-- Bytes decode to UNKNOWN exactly when their word lies in the table of unmatched ranges, and that table holds 73
words. The set follows from the spec's rule list (decision D3). -/
def Obligations.UnmatchedWordsAreTheSeventyThree : Prop :=
  (∀ (bytes : List Byte) (w : Word12), wordOf bytes = .ok w →
    ((∃ v, decode bytes = .ok (.unknown v)) ↔ unmatched w = true)) ∧
  (unmatchedRanges.map fun r => r.2 + 1 - r.1).sum = 73

/-- If no row of the rule list hits the word of the bytes, the step answers a next state whose result is UNKNOWN
without operands, edges or comment, whatever address and page_rec are, and only the result and the bound page_rec may
differ; exec of UNKNOWN always answers with that result. -/
def Obligations.UnknownIsAResultAndNotAnError : Prop :=
  (∀ (w : Word12) (s : State), exec (.unknown w) s = .next { s with result := some ⟨.UNKNOWN, none, none, [], none⟩ }) ∧
  (∀ (s : State) (w : Word12), wordOf s.bytes = .ok w → (∀ row ∈ RULES, row.hits w = false) →
    step s = .next { s with pageRec := boundPageRec s, result := some ⟨.UNKNOWN, none, none, [], none⟩ }) ∧
  decode [0x0E, 0xD0] = .ok (.unknown 0xED0)

/-- The list of mnemonics, UNKNOWN first, has 47 members without repetition and holds every mnemonic; and for each
mnemonic some word decodes with it, at every address and page record. That every mnemonic is reached the spec derives
from its rule list; the names beyond the source's ten are the spec's own (decisions D3, D16). -/
def Obligations.FortySevenMnemonicsAllReached : Prop :=
  mnemonicOrder.length = 47 ∧ mnemonicOrder.Nodup ∧
  ∀ m : Mnemonic, m ∈ mnemonicOrder ∧
    ∃ bytes, ∀ address pageRec, ∃ d, decodeCall bytes address pageRec = .ok d ∧ d.mnemonic = m

/-- No bytes are InvalidInput; one byte v is the container 0x00 v; of two or more bytes the last two b0 b1 are the
container, b0 in bits 15:8; the word is b0[3:0] followed by b1; two containers that differ only in bits 15:12 give the
same word. -/
def Obligations.WordIsTheLowTwelveBitsOfTheLastTwoBytes : Prop :=
  (containerOf [] = .error .invalidInput ∧ wordOf [] = .error .invalidInput) ∧
  (∀ v : Byte, containerOf [v] = .ok (0x00#8 ++ v) ∧ wordOf [v] = .ok (0x0#4 ++ v)) ∧
  (∀ (before : List Byte) (b0 b1 : Byte), containerOf (before ++ [b0, b1]) = .ok (b0 ++ b1) ∧
    wordOf (before ++ [b0, b1]) = .ok (b0.extractLsb' 0 4 ++ b1)) ∧
  (∀ c c' : Container, c.extractLsb' 0 12 = c'.extractLsb' 0 12 → rawWord c = rawWord c')

/-- For container bytes b0 b1 and their word w: upper is b0[3:0], middle is b1[7:4], lower is b1[3:0], combined_low8
is b1 and middle followed by lower, imm5 is b1[4:0]; sel54 is middle[1:0], sel32 is lower[3:2], sel10 is lower[1:0];
the view holds these five fields. The sub-fields are the spec's own names (decision D3). -/
def Obligations.FieldsAreTheSlicesOfTheWord : Prop :=
  ∀ (b0 b1 : Byte) (w : Word12), wordOf [b0, b1] = .ok w →
    upper w = b0.extractLsb' 0 4 ∧ middle w = b1.extractLsb' 4 4 ∧ lower w = b1.extractLsb' 0 4 ∧
    combinedLow8 w = b1 ∧ middle w ++ lower w = b1 ∧ imm5 w = b1.extractLsb' 0 5 ∧ upper w ++ middle w ++ lower w = w ∧
    sel54 w = (middle w).extractLsb' 0 2 ∧ sel32 w = (lower w).extractLsb' 2 2 ∧ sel10 w = (lower w).extractLsb' 0 2 ∧
    view w = ⟨upper w, middle w, lower w, combinedLow8 w, imm5 w⟩

/-- For every state that presents the single byte v, the step answers with the result JP, operand Address(v), and one
Unconditional edge to the bound page value followed by v. The spec marks this as derived. -/
def Obligations.OneByteIsAlwaysAnUnconditionalJump : Prop :=
  ∀ (s : State) (v : Byte), s.bytes = [v] →
    step s = .next (s.bindPageRec.withResult ⟨.JP, some (.address (v.setWidth 16)), none,
      [⟨.unconditional, some (0#19 ++ boundPageRec s ++ v)⟩], none⟩)

/-- For every state: with no bytes the step ends in InvalidInput, without a next state, and the port out_invalid_input
is 1; with any bytes, any address and any page record the step answers a next state that holds a result. -/
def Obligations.OnlyEmptyInputFails : Prop :=
  (∀ s : State, s.bytes = [] → step s = .fault .invalidInput) ∧
  (∀ s : State, s.bytes ≠ [] → ∃ t, step s = .next t ∧ t.result.isSome = true) ∧
  (∀ (pin : PortIn) (address : WordAddr) (pageRec : PageValue), Carries pin [] address pageRec →
    (portBlock pin).invalidInput = true)

/-- For any two states that agree on bytes, address and the page value page_rec carries in the call, whatever their
earlier results, index and phase, either both calls fail alike or both answer with the same result. -/
def Obligations.ResultDependsOnTheInputsAlone : Prop :=
  ∀ s t : State, s.bytes = t.bytes → s.address = t.address → boundPageRec s = boundPageRec t →
    (∀ s', step s = .next s' → ∃ t', step t = .next t' ∧ t'.result = s'.result) ∧
    (∀ f, step s = .fault f → step t = .fault f) ∧ (∀ r, step s ≠ .refused r)

/-- For every state whose step answers a next state, a step from that next state answers the same state again: the
result, the index and the inputs stay (decoding is idempotent and inserting a duplicate address is a no-op). -/
def Obligations.CallingTwiceChangesNothingMore : Prop :=
  ∀ s t : State, step s = .next t → step t = .next t

/-- For every state, decode(bytes, address, page_rec) by the columns of the rule list, with page_rec as bound in the
call, gives the result d exactly as the step does, and gives InvalidInput exactly where the step ends in it. -/
def Obligations.TableDrivenBlockEqualsTheMachine : Prop :=
  ∀ s : State,
    match decodeCall s.bytes s.address (boundPageRec s) with
    | .ok d => ∃ t, step s = .next t ∧ t.result = some d ∧ t.bytes = s.bytes ∧ t.address = s.address ∧ t.phase = s.phase
    | .error _ => step s = .fault .invalidInput

/-- For each of PSET p, JP s, JP C,s, JP NC,s, JP Z,s, JP NZ,s: the word written out from the row's encoding, with
every field at every value that reaches the row, decodes to the instruction, and in every state exec of it answers the
next state whose result has exactly the mnemonic, operands, edges and comment of its rule, with every other part of
the state (inputs, index, phase) unchanged. Targets are written out: 0 followed by page_rec and the step for JP forms,
address & 0x1F00 | step for CALL, address & 0x1000 | step for CALZ, address + 1 for the False edge. The spec marks
these patterns as its own decision D3 (general knowledge). -/
def Obligations.PageSetAndJumpRowsDecodeAndRun : Prop :=
  -- `PSET p`, R104
  (∀ (p : PageValue), decodeWord (0b1110010#7 ++ p) = .pset p ∧
    ∀ s : State, exec (.pset p) s = .next { s with result := some ⟨.PSET, some (.immediate (p.setWidth 8)), none, [], none⟩ }) ∧
  -- `JP s`, R105
  (∀ (disp : Byte), decodeWord (0b0000#4 ++ disp) = .jp disp ∧
    ∀ s : State, exec (.jp disp) s = .next { s with result := some ⟨.JP, some (.address (disp.setWidth 16)), none, [⟨.unconditional, some (0#19 ++ s.pageRec ++ disp)⟩], none⟩ }) ∧
  -- `JP C,s`, R106
  (∀ (disp : Byte), decodeWord (0b0010#4 ++ disp) = .jpC disp ∧
    ∀ s : State, exec (.jpC disp) s = .next { s with result := some ⟨.JP, some (.conditionName .C), some (.address (disp.setWidth 16)), [⟨.trueBranch, some (0#19 ++ s.pageRec ++ disp)⟩, ⟨.falseBranch, some (s.address + 1)⟩], none⟩ }) ∧
  -- `JP NC,s`, R107
  (∀ (disp : Byte), decodeWord (0b0011#4 ++ disp) = .jpNC disp ∧
    ∀ s : State, exec (.jpNC disp) s = .next { s with result := some ⟨.JP, some (.conditionName .NC), some (.address (disp.setWidth 16)), [⟨.trueBranch, some (0#19 ++ s.pageRec ++ disp)⟩, ⟨.falseBranch, some (s.address + 1)⟩], none⟩ }) ∧
  -- `JP Z,s`, R108
  (∀ (disp : Byte), decodeWord (0b0110#4 ++ disp) = .jpZ disp ∧
    ∀ s : State, exec (.jpZ disp) s = .next { s with result := some ⟨.JP, some (.conditionName .Z), some (.address (disp.setWidth 16)), [⟨.trueBranch, some (0#19 ++ s.pageRec ++ disp)⟩, ⟨.falseBranch, some (s.address + 1)⟩], none⟩ }) ∧
  -- `JP NZ,s`, R109
  (∀ (disp : Byte), decodeWord (0b0111#4 ++ disp) = .jpNZ disp ∧
    ∀ s : State, exec (.jpNZ disp) s = .next { s with result := some ⟨.JP, some (.conditionName .NZ), some (.address (disp.setWidth 16)), [⟨.trueBranch, some (0#19 ++ s.pageRec ++ disp)⟩, ⟨.falseBranch, some (s.address + 1)⟩], none⟩ }) ∧
  -- a one-byte input is always `JP s` (R105, corner cases)
  (∀ v : Byte, decode [v] = .ok (.jp v))

/-- For each of JPBA, CALL s, CALZ s, RET, RETS, RETD l: the word written out from the row's encoding, with every
field at every value that reaches the row, decodes to the instruction, and in every state exec of it answers the next
state whose result has exactly the mnemonic, operands, edges and comment of its rule, with every other part of the
state (inputs, index, phase) unchanged. Targets are written out: 0 followed by page_rec and the step for JP forms,
address & 0x1F00 | step for CALL, address & 0x1000 | step for CALZ, address + 1 for the False edge. The spec marks
these patterns as its own decision D3 (general knowledge). -/
def Obligations.IndirectCallAndReturnRowsDecodeAndRun : Prop :=
  -- `JPBA`, R110
  (decodeWord (0b111111101000#12) = .jpba ∧ ∀ s : State, exec .jpba s = .next { s with result := some ⟨.JPBA, none, none, [⟨.indirect, none⟩], none⟩ }) ∧
  -- `CALL s`, R111
  (∀ (disp : Byte), decodeWord (0b0100#4 ++ disp) = .call disp ∧
    ∀ s : State, exec (.call disp) s = .next { s with result := some ⟨.CALL, some (.address (disp.setWidth 16)), none, [⟨.callDestination, some ((s.address &&& 0x1F00) ||| disp.setWidth 32)⟩], none⟩ }) ∧
  -- `CALZ s`, R112
  (∀ (disp : Byte), decodeWord (0b0101#4 ++ disp) = .calz disp ∧
    ∀ s : State, exec (.calz disp) s = .next { s with result := some ⟨.CALZ, some (.address (disp.setWidth 16)), none, [⟨.callDestination, some ((s.address &&& 0x1000) ||| disp.setWidth 32)⟩], none⟩ }) ∧
  -- `RET`, R113
  (decodeWord (0b111111011111#12) = .ret ∧ ∀ s : State, exec .ret s = .next { s with result := some ⟨.RET, none, none, [⟨.functionReturn, none⟩], none⟩ }) ∧
  -- `RETS`, R114
  (decodeWord (0b111111011110#12) = .rets ∧ ∀ s : State, exec .rets s = .next { s with result := some ⟨.RETS, none, none, [⟨.functionReturn, none⟩], some .skipOnReturn⟩ }) ∧
  -- `RETD l`, R115
  (∀ (l : Byte), decodeWord (0b0001#4 ++ l) = .retd l ∧
    ∀ s : State, exec (.retd l) s = .next { s with result := some ⟨.RETD, some (.immediate l), none, [⟨.functionReturn, none⟩], none⟩ })

/-- For each of NOP5, NOP7, HALT, SLP: the word written out from the row's encoding, with every field at every value
that reaches the row, decodes to the instruction, and in every state exec of it answers the next state whose result
has exactly the mnemonic, operands, edges and comment of its rule, with every other part of the state (inputs, index,
phase) unchanged. The spec marks these patterns as its own decision D3 (general knowledge). -/
def Obligations.SystemRowsDecodeAndRun : Prop :=
  -- `NOP5`, R120
  (decodeWord (0b111111111011#12) = .nop5 ∧ ∀ s : State, exec .nop5 s = .next { s with result := some ⟨.NOP5, none, none, [], none⟩ }) ∧
  -- `NOP7`, R121
  (decodeWord (0b111111111111#12) = .nop7 ∧ ∀ s : State, exec .nop7 s = .next { s with result := some ⟨.NOP7, none, none, [], none⟩ }) ∧
  -- `HALT`, R122
  (decodeWord (0b111111111000#12) = .halt ∧ ∀ s : State, exec .halt s = .next { s with result := some ⟨.HALT, none, none, [], none⟩ }) ∧
  -- `SLP`, R123
  (decodeWord (0b111111111001#12) = .slp ∧ ∀ s : State, exec .slp s = .next { s with result := some ⟨.SLP, none, none, [], none⟩ }) ∧
  -- the neighbouring words that match no row (corner cases)
  (∀ w ∈ ([0xFFA, 0xFFC, 0xFFD, 0xFFE] : List Word12), decodeWord w = .unknown w)

/-- For each of INC X, INC Y, LD X,x, LD Y,y, ADC XH,i, ADC XL,i, ADC YH,i, ADC YL,i, CP XH,i, CP XL,i, CP YH,i, CP
YL,i: the word written out from the row's encoding, with every field at every value that reaches the row, decodes to
the instruction, and in every state exec of it answers the next state whose result has exactly the mnemonic, operands,
edges and comment of its rule, with every other part of the state (inputs, index, phase) unchanged. The spec marks
these patterns as its own decision D3 (general knowledge). -/
def Obligations.IndexLiteralRowsDecodeAndRun : Prop :=
  -- `INC X`, R130
  (decodeWord (0b111011100000#12) = .incX ∧ ∀ s : State, exec .incX s = .next { s with result := some ⟨.INC, some (.register .X), none, [], none⟩ }) ∧
  -- `INC Y`, R131
  (decodeWord (0b111011110000#12) = .incY ∧ ∀ s : State, exec .incY s = .next { s with result := some ⟨.INC, some (.register .Y), none, [], none⟩ }) ∧
  -- `LD X,x`, R132
  (∀ (x : Byte), decodeWord (0b1011#4 ++ x) = .ldX x ∧
    ∀ s : State, exec (.ldX x) s = .next { s with result := some ⟨.LD, some (.register .X), some (.immediate x), [], none⟩ }) ∧
  -- `LD Y,y`, R133
  (∀ (y : Byte), decodeWord (0b1000#4 ++ y) = .ldY y ∧
    ∀ s : State, exec (.ldY y) s = .next { s with result := some ⟨.LD, some (.register .Y), some (.immediate y), [], none⟩ }) ∧
  -- `ADC XH,i`, R146
  (∀ (imm : Nibble), decodeWord (0b10100000#8 ++ imm) = .adcXH imm ∧
    ∀ s : State, exec (.adcXH imm) s = .next { s with result := some ⟨.ADC, some (.register .XH), some (.immediate (imm.setWidth 8)), [], none⟩ }) ∧
  -- `ADC XL,i`, R147
  (∀ (imm : Nibble), decodeWord (0b10100001#8 ++ imm) = .adcXL imm ∧
    ∀ s : State, exec (.adcXL imm) s = .next { s with result := some ⟨.ADC, some (.register .XL), some (.immediate (imm.setWidth 8)), [], none⟩ }) ∧
  -- `ADC YH,i`, R148
  (∀ (imm : Nibble), decodeWord (0b10100010#8 ++ imm) = .adcYH imm ∧
    ∀ s : State, exec (.adcYH imm) s = .next { s with result := some ⟨.ADC, some (.register .YH), some (.immediate (imm.setWidth 8)), [], none⟩ }) ∧
  -- `ADC YL,i`, R149
  (∀ (imm : Nibble), decodeWord (0b10100011#8 ++ imm) = .adcYL imm ∧
    ∀ s : State, exec (.adcYL imm) s = .next { s with result := some ⟨.ADC, some (.register .YL), some (.immediate (imm.setWidth 8)), [], none⟩ }) ∧
  -- `CP XH,i`, R150
  (∀ (imm : Nibble), decodeWord (0b10100100#8 ++ imm) = .cpXH imm ∧
    ∀ s : State, exec (.cpXH imm) s = .next { s with result := some ⟨.CP, some (.register .XH), some (.immediate (imm.setWidth 8)), [], none⟩ }) ∧
  -- `CP XL,i`, R151
  (∀ (imm : Nibble), decodeWord (0b10100101#8 ++ imm) = .cpXL imm ∧
    ∀ s : State, exec (.cpXL imm) s = .next { s with result := some ⟨.CP, some (.register .XL), some (.immediate (imm.setWidth 8)), [], none⟩ }) ∧
  -- `CP YH,i`, R152
  (∀ (imm : Nibble), decodeWord (0b10100110#8 ++ imm) = .cpYH imm ∧
    ∀ s : State, exec (.cpYH imm) s = .next { s with result := some ⟨.CP, some (.register .YH), some (.immediate (imm.setWidth 8)), [], none⟩ }) ∧
  -- `CP YL,i`, R153
  (∀ (imm : Nibble), decodeWord (0b10100111#8 ++ imm) = .cpYL imm ∧
    ∀ s : State, exec (.cpYL imm) s = .next { s with result := some ⟨.CP, some (.register .YL), some (.immediate (imm.setWidth 8)), [], none⟩ })

/-- For each of LD XP,r, LD XH,r, LD XL,r, LD YP,r, LD YH,r, LD YL,r, LD r,XP, LD r,XH, LD r,XL, LD r,YP, LD r,YH, LD
r,YL: the word written out from the row's encoding, with every field at every value that reaches the row, decodes to
the instruction, and in every state exec of it answers the next state whose result has exactly the mnemonic, operands,
edges and comment of its rule, with every other part of the state (inputs, index, phase) unchanged. The spec marks
these patterns as its own decision D3 (general knowledge). -/
def Obligations.IndexNibbleTransferRowsDecodeAndRun : Prop :=
  -- `LD XP,r`, R134
  (∀ (r : Sel), decodeWord (0b1110100000#10 ++ r.bits) = .ldXPr r ∧
    ∀ s : State, exec (.ldXPr r) s = .next { s with result := some ⟨.LD, some (.register .XP), some (selOperand r), [], none⟩ }) ∧
  -- `LD XH,r`, R135
  (∀ (r : Sel), decodeWord (0b1110100001#10 ++ r.bits) = .ldXHr r ∧
    ∀ s : State, exec (.ldXHr r) s = .next { s with result := some ⟨.LD, some (.register .XH), some (selOperand r), [], none⟩ }) ∧
  -- `LD XL,r`, R136
  (∀ (r : Sel), decodeWord (0b1110100010#10 ++ r.bits) = .ldXLr r ∧
    ∀ s : State, exec (.ldXLr r) s = .next { s with result := some ⟨.LD, some (.register .XL), some (selOperand r), [], none⟩ }) ∧
  -- `LD YP,r`, R137
  (∀ (r : Sel), decodeWord (0b1110100100#10 ++ r.bits) = .ldYPr r ∧
    ∀ s : State, exec (.ldYPr r) s = .next { s with result := some ⟨.LD, some (.register .YP), some (selOperand r), [], none⟩ }) ∧
  -- `LD YH,r`, R138
  (∀ (r : Sel), decodeWord (0b1110100101#10 ++ r.bits) = .ldYHr r ∧
    ∀ s : State, exec (.ldYHr r) s = .next { s with result := some ⟨.LD, some (.register .YH), some (selOperand r), [], none⟩ }) ∧
  -- `LD YL,r`, R139
  (∀ (r : Sel), decodeWord (0b1110100110#10 ++ r.bits) = .ldYLr r ∧
    ∀ s : State, exec (.ldYLr r) s = .next { s with result := some ⟨.LD, some (.register .YL), some (selOperand r), [], none⟩ }) ∧
  -- `LD r,XP`, R140
  (∀ (r : Sel), decodeWord (0b1110101000#10 ++ r.bits) = .ldRXP r ∧
    ∀ s : State, exec (.ldRXP r) s = .next { s with result := some ⟨.LD, some (selOperand r), some (.register .XP), [], none⟩ }) ∧
  -- `LD r,XH`, R141
  (∀ (r : Sel), decodeWord (0b1110101001#10 ++ r.bits) = .ldRXH r ∧
    ∀ s : State, exec (.ldRXH r) s = .next { s with result := some ⟨.LD, some (selOperand r), some (.register .XH), [], none⟩ }) ∧
  -- `LD r,XL`, R142
  (∀ (r : Sel), decodeWord (0b1110101010#10 ++ r.bits) = .ldRXL r ∧
    ∀ s : State, exec (.ldRXL r) s = .next { s with result := some ⟨.LD, some (selOperand r), some (.register .XL), [], none⟩ }) ∧
  -- `LD r,YP`, R143
  (∀ (r : Sel), decodeWord (0b1110101100#10 ++ r.bits) = .ldRYP r ∧
    ∀ s : State, exec (.ldRYP r) s = .next { s with result := some ⟨.LD, some (selOperand r), some (.register .YP), [], none⟩ }) ∧
  -- `LD r,YH`, R144
  (∀ (r : Sel), decodeWord (0b1110101101#10 ++ r.bits) = .ldRYH r ∧
    ∀ s : State, exec (.ldRYH r) s = .next { s with result := some ⟨.LD, some (selOperand r), some (.register .YH), [], none⟩ }) ∧
  -- `LD r,YL`, R145
  (∀ (r : Sel), decodeWord (0b1110101110#10 ++ r.bits) = .ldRYL r ∧
    ∀ s : State, exec (.ldRYL r) s = .next { s with result := some ⟨.LD, some (selOperand r), some (.register .YL), [], none⟩ }) ∧
  -- the neighbouring words that match no row (corner cases)
  (∀ w ∈ ([0xE9C, 0xE9D, 0xE9E, 0xE9F, 0xEAC, 0xEAD, 0xEAE, 0xEAF, 0xEBC, 0xEBD, 0xEBE, 0xEBF] : List Word12), decodeWord w = .unknown w)

/-- For each of LD r,i, LD r,q, LD A,Mn, LD B,Mn, LD Mn,A, LD Mn,B, LDPX MX,i, LDPX r,q, LDPY MY,i, LDPY r,q, LBPX
MX,l: the word written out from the row's encoding, with every field at every value that reaches the row, decodes to
the instruction, and in every state exec of it answers the next state whose result has exactly the mnemonic, operands,
edges and comment of its rule, with every other part of the state (inputs, index, phase) unchanged. The spec marks
these patterns as its own decision D3 (general knowledge). -/
def Obligations.DataTransferRowsDecodeAndRun : Prop :=
  -- `LD r,i`, R160
  (∀ (r : Sel) (imm : Nibble), decodeWord (0b111000#6 ++ r.bits ++ imm) = .ldRI r imm ∧
    ∀ s : State, exec (.ldRI r imm) s = .next { s with result := some ⟨.LD, some (selOperand r), some (.immediate (imm.setWidth 8)), [], none⟩ }) ∧
  -- `LD r,q`, R161
  (∀ (r : Sel) (q : Sel), decodeWord (0b11101100#8 ++ r.bits ++ q.bits) = .ldRQ r q ∧
    ∀ s : State, exec (.ldRQ r q) s = .next { s with result := some ⟨.LD, some (selOperand r), some (selOperand q), [], none⟩ }) ∧
  -- `LD A,Mn`, R162
  (∀ (n : Nibble), decodeWord (0b11111010#8 ++ n) = .ldAMn n ∧
    ∀ s : State, exec (.ldAMn n) s = .next { s with result := some ⟨.LD, some (.register .A), some (.register (.M n)), [], none⟩ }) ∧
  -- `LD B,Mn`, R163
  (∀ (n : Nibble), decodeWord (0b11111011#8 ++ n) = .ldBMn n ∧
    ∀ s : State, exec (.ldBMn n) s = .next { s with result := some ⟨.LD, some (.register .B), some (.register (.M n)), [], none⟩ }) ∧
  -- `LD Mn,A`, R164
  (∀ (n : Nibble), decodeWord (0b11111000#8 ++ n) = .ldMnA n ∧
    ∀ s : State, exec (.ldMnA n) s = .next { s with result := some ⟨.LD, some (.register (.M n)), some (.register .A), [], none⟩ }) ∧
  -- `LD Mn,B`, R165
  (∀ (n : Nibble), decodeWord (0b11111001#8 ++ n) = .ldMnB n ∧
    ∀ s : State, exec (.ldMnB n) s = .next { s with result := some ⟨.LD, some (.register (.M n)), some (.register .B), [], none⟩ }) ∧
  -- `LDPX MX,i`, R166
  (∀ (imm : Nibble), decodeWord (0b11100110#8 ++ imm) = .ldpxMX imm ∧
    ∀ s : State, exec (.ldpxMX imm) s = .next { s with result := some ⟨.LDPX, some (.registerIndirect .X), some (.immediate (imm.setWidth 8)), [], none⟩ }) ∧
  -- `LDPX r,q`, R167
  (∀ (r : Sel) (q : Sel), (r, q) ≠ (.a, .a) → decodeWord (0b11101110#8 ++ r.bits ++ q.bits) = .ldpxRQ r q) ∧
  (∀ (r : Sel) (q : Sel) (s : State), exec (.ldpxRQ r q) s = .next { s with result := some ⟨.LDPX, some (selOperand r), some (selOperand q), [], none⟩ }) ∧
  -- `LDPY MY,i`, R168
  (∀ (imm : Nibble), decodeWord (0b11100111#8 ++ imm) = .ldpyMY imm ∧
    ∀ s : State, exec (.ldpyMY imm) s = .next { s with result := some ⟨.LDPY, some (.registerIndirect .Y), some (.immediate (imm.setWidth 8)), [], none⟩ }) ∧
  -- `LDPY r,q`, R169
  (∀ (r : Sel) (q : Sel), (r, q) ≠ (.a, .a) → decodeWord (0b11101111#8 ++ r.bits ++ q.bits) = .ldpyRQ r q) ∧
  (∀ (r : Sel) (q : Sel) (s : State), exec (.ldpyRQ r q) s = .next { s with result := some ⟨.LDPY, some (selOperand r), some (selOperand q), [], none⟩ }) ∧
  -- `LBPX MX,l`, R170
  (∀ (l : Byte), decodeWord (0b1001#4 ++ l) = .lbpx l ∧
    ∀ s : State, exec (.lbpx l) s = .next { s with result := some ⟨.LBPX, some (.registerIndirect .X), some (.immediate l), [], none⟩ }) ∧
  -- the two words taken by `INC X` and `INC Y` (R167, R169, corner cases)
  (decodeWord 0xEE0 = .incX ∧ decodeWord 0xEF0 = .incY)

/-- For each of SET F,i, RST F,i, SCF, RCF, SZF, RZF, SDF, RDF, EI, DI: the word written out from the row's encoding,
with every field at every value that reaches the row, decodes to the instruction, and in every state exec of it
answers the next state whose result has exactly the mnemonic, operands, edges and comment of its rule, with every
other part of the state (inputs, index, phase) unchanged. The spec marks these patterns as its own decision D3
(general knowledge). -/
def Obligations.FlagRowsDecodeAndRun : Prop :=
  -- `SET F,i`, R180
  (∀ (imm : Nibble), imm ≠ 0x1 → imm ≠ 0x2 → imm ≠ 0x4 → imm ≠ 0x8 → decodeWord (0b11110100#8 ++ imm) = .setF imm) ∧
  (∀ (imm : Nibble) (s : State), exec (.setF imm) s = .next { s with result := some ⟨.SET, some (.register .F), some (.immediate (imm.setWidth 8)), [], none⟩ }) ∧
  -- `RST F,i`, R181
  (∀ (imm : Nibble), imm ≠ 0xE → imm ≠ 0xD → imm ≠ 0xB → imm ≠ 0x7 → decodeWord (0b11110101#8 ++ imm) = .rstF imm) ∧
  (∀ (imm : Nibble) (s : State), exec (.rstF imm) s = .next { s with result := some ⟨.RST, some (.register .F), some (.immediate (imm.setWidth 8)), [], none⟩ }) ∧
  -- `SCF`, R182
  (decodeWord (0b111101000001#12) = .scf ∧ ∀ s : State, exec .scf s = .next { s with result := some ⟨.SCF, none, none, [], none⟩ }) ∧
  -- `RCF`, R183
  (decodeWord (0b111101011110#12) = .rcf ∧ ∀ s : State, exec .rcf s = .next { s with result := some ⟨.RCF, none, none, [], none⟩ }) ∧
  -- `SZF`, R184
  (decodeWord (0b111101000010#12) = .szf ∧ ∀ s : State, exec .szf s = .next { s with result := some ⟨.SZF, none, none, [], none⟩ }) ∧
  -- `RZF`, R185
  (decodeWord (0b111101011101#12) = .rzf ∧ ∀ s : State, exec .rzf s = .next { s with result := some ⟨.RZF, none, none, [], none⟩ }) ∧
  -- `SDF`, R186
  (decodeWord (0b111101000100#12) = .sdf ∧ ∀ s : State, exec .sdf s = .next { s with result := some ⟨.SDF, none, none, [], none⟩ }) ∧
  -- `RDF`, R187
  (decodeWord (0b111101011011#12) = .rdf ∧ ∀ s : State, exec .rdf s = .next { s with result := some ⟨.RDF, none, none, [], none⟩ }) ∧
  -- `EI`, R188
  (decodeWord (0b111101001000#12) = .ei ∧ ∀ s : State, exec .ei s = .next { s with result := some ⟨.EI, none, none, [], none⟩ }) ∧
  -- `DI`, R189
  (decodeWord (0b111101010111#12) = .di ∧ ∀ s : State, exec .di s = .next { s with result := some ⟨.DI, none, none, [], none⟩ })

/-- For each of INC SP, DEC SP, PUSH r, POP r, LD SPH,r, LD SPL,r, LD r,SPH, LD r,SPL: the word written out from the
row's encoding, with every field at every value that reaches the row, decodes to the instruction, and in every state
exec of it answers the next state whose result has exactly the mnemonic, operands, edges and comment of its rule, with
every other part of the state (inputs, index, phase) unchanged. The spec marks these patterns as its own decision D3
(general knowledge). -/
def Obligations.StackPointerAndSelectorRowsDecodeAndRun : Prop :=
  -- `INC SP`, R200
  (decodeWord (0b111111011011#12) = .incSP ∧ ∀ s : State, exec .incSP s = .next { s with result := some ⟨.INC, some (.register .SP), none, [], none⟩ }) ∧
  -- `DEC SP`, R201
  (decodeWord (0b111111001011#12) = .decSP ∧ ∀ s : State, exec .decSP s = .next { s with result := some ⟨.DEC, some (.register .SP), none, [], none⟩ }) ∧
  -- `PUSH r`, R202
  (∀ (r : Sel), decodeWord (0b1111110000#10 ++ r.bits) = .pushR r ∧
    ∀ s : State, exec (.pushR r) s = .next { s with result := some ⟨.PUSH, some (selOperand r), none, [], none⟩ }) ∧
  -- `POP r`, R210
  (∀ (r : Sel), decodeWord (0b1111110100#10 ++ r.bits) = .popR r ∧
    ∀ s : State, exec (.popR r) s = .next { s with result := some ⟨.POP, some (selOperand r), none, [], none⟩ }) ∧
  -- `LD SPH,r`, R218
  (∀ (r : Sel), decodeWord (0b1111111000#10 ++ r.bits) = .ldSPHr r ∧
    ∀ s : State, exec (.ldSPHr r) s = .next { s with result := some ⟨.LD, some (.register .SPH), some (selOperand r), [], none⟩ }) ∧
  -- `LD SPL,r`, R219
  (∀ (r : Sel), decodeWord (0b1111111100#10 ++ r.bits) = .ldSPLr r ∧
    ∀ s : State, exec (.ldSPLr r) s = .next { s with result := some ⟨.LD, some (.register .SPL), some (selOperand r), [], none⟩ }) ∧
  -- `LD r,SPH`, R220
  (∀ (r : Sel), decodeWord (0b1111111001#10 ++ r.bits) = .ldRSPH r ∧
    ∀ s : State, exec (.ldRSPH r) s = .next { s with result := some ⟨.LD, some (selOperand r), some (.register .SPH), [], none⟩ }) ∧
  -- `LD r,SPL`, R221
  (∀ (r : Sel), decodeWord (0b1111111101#10 ++ r.bits) = .ldRSPL r ∧
    ∀ s : State, exec (.ldRSPL r) s = .next { s with result := some ⟨.LD, some (selOperand r), some (.register .SPL), [], none⟩ }) ∧
  -- the neighbouring words that match no row (corner cases)
  (∀ w ∈ ([0xFCC, 0xFCD, 0xFCE, 0xFCF, 0xFDC, 0xFDD, 0xFE9, 0xFEA, 0xFEB, 0xFEC, 0xFED, 0xFEE, 0xFEF, 0xFFA, 0xFFC, 0xFFD, 0xFFE] : List Word12), decodeWord w = .unknown w)

/-- For each of PUSH XP, PUSH XH, PUSH XL, PUSH YP, PUSH YH, PUSH YL, PUSH F: the word written out from the row's
encoding, with every field at every value that reaches the row, decodes to the instruction, and in every state exec of
it answers the next state whose result has exactly the mnemonic, operands, edges and comment of its rule, with every
other part of the state (inputs, index, phase) unchanged. The spec marks these patterns as its own decision D3
(general knowledge). -/
def Obligations.PushNamedRegisterRowsDecodeAndRun : Prop :=
  -- `PUSH XP`, R203
  (decodeWord (0b111111000100#12) = .pushXP ∧ ∀ s : State, exec .pushXP s = .next { s with result := some ⟨.PUSH, some (.register .XP), none, [], none⟩ }) ∧
  -- `PUSH XH`, R204
  (decodeWord (0b111111000101#12) = .pushXH ∧ ∀ s : State, exec .pushXH s = .next { s with result := some ⟨.PUSH, some (.register .XH), none, [], none⟩ }) ∧
  -- `PUSH XL`, R205
  (decodeWord (0b111111000110#12) = .pushXL ∧ ∀ s : State, exec .pushXL s = .next { s with result := some ⟨.PUSH, some (.register .XL), none, [], none⟩ }) ∧
  -- `PUSH YP`, R206
  (decodeWord (0b111111000111#12) = .pushYP ∧ ∀ s : State, exec .pushYP s = .next { s with result := some ⟨.PUSH, some (.register .YP), none, [], none⟩ }) ∧
  -- `PUSH YH`, R207
  (decodeWord (0b111111001000#12) = .pushYH ∧ ∀ s : State, exec .pushYH s = .next { s with result := some ⟨.PUSH, some (.register .YH), none, [], none⟩ }) ∧
  -- `PUSH YL`, R208
  (decodeWord (0b111111001001#12) = .pushYL ∧ ∀ s : State, exec .pushYL s = .next { s with result := some ⟨.PUSH, some (.register .YL), none, [], none⟩ }) ∧
  -- `PUSH F`, R209
  (decodeWord (0b111111001010#12) = .pushF ∧ ∀ s : State, exec .pushF s = .next { s with result := some ⟨.PUSH, some (.register .F), none, [], none⟩ })

/-- For each of POP XP, POP XH, POP XL, POP YP, POP YH, POP YL, POP F: the word written out from the row's encoding,
with every field at every value that reaches the row, decodes to the instruction, and in every state exec of it
answers the next state whose result has exactly the mnemonic, operands, edges and comment of its rule, with every
other part of the state (inputs, index, phase) unchanged. The spec marks these patterns as its own decision D3
(general knowledge). -/
def Obligations.PopNamedRegisterRowsDecodeAndRun : Prop :=
  -- `POP XP`, R211
  (decodeWord (0b111111010100#12) = .popXP ∧ ∀ s : State, exec .popXP s = .next { s with result := some ⟨.POP, some (.register .XP), none, [], none⟩ }) ∧
  -- `POP XH`, R212
  (decodeWord (0b111111010101#12) = .popXH ∧ ∀ s : State, exec .popXH s = .next { s with result := some ⟨.POP, some (.register .XH), none, [], none⟩ }) ∧
  -- `POP XL`, R213
  (decodeWord (0b111111010110#12) = .popXL ∧ ∀ s : State, exec .popXL s = .next { s with result := some ⟨.POP, some (.register .XL), none, [], none⟩ }) ∧
  -- `POP YP`, R214
  (decodeWord (0b111111010111#12) = .popYP ∧ ∀ s : State, exec .popYP s = .next { s with result := some ⟨.POP, some (.register .YP), none, [], none⟩ }) ∧
  -- `POP YH`, R215
  (decodeWord (0b111111011000#12) = .popYH ∧ ∀ s : State, exec .popYH s = .next { s with result := some ⟨.POP, some (.register .YH), none, [], none⟩ }) ∧
  -- `POP YL`, R216
  (decodeWord (0b111111011001#12) = .popYL ∧ ∀ s : State, exec .popYL s = .next { s with result := some ⟨.POP, some (.register .YL), none, [], none⟩ }) ∧
  -- `POP F`, R217
  (decodeWord (0b111111011010#12) = .popF ∧ ∀ s : State, exec .popF s = .next { s with result := some ⟨.POP, some (.register .F), none, [], none⟩ })

/-- For each of ADD r,i, ADC r,i, SBC r,i, AND r,i, OR r,i, XOR r,i, CP r,i, FAN r,i, NOT r: the word written out from
the row's encoding, with every field at every value that reaches the row, decodes to the instruction, and in every
state exec of it answers the next state whose result has exactly the mnemonic, operands, edges and comment of its
rule, with every other part of the state (inputs, index, phase) unchanged. The spec marks these patterns as its own
decision D3 (general knowledge). -/
def Obligations.ArithmeticLiteralRowsDecodeAndRun : Prop :=
  -- `ADD r,i`, R230
  (∀ (r : Sel) (imm : Nibble), decodeWord (0b110000#6 ++ r.bits ++ imm) = .addRI r imm ∧
    ∀ s : State, exec (.addRI r imm) s = .next { s with result := some ⟨.ADD, some (selOperand r), some (.immediate (imm.setWidth 8)), [], none⟩ }) ∧
  -- `ADC r,i`, R232
  (∀ (r : Sel) (imm : Nibble), decodeWord (0b110001#6 ++ r.bits ++ imm) = .adcRI r imm ∧
    ∀ s : State, exec (.adcRI r imm) s = .next { s with result := some ⟨.ADC, some (selOperand r), some (.immediate (imm.setWidth 8)), [], none⟩ }) ∧
  -- `SBC r,i`, R235
  (∀ (r : Sel) (imm : Nibble), decodeWord (0b110101#6 ++ r.bits ++ imm) = .sbcRI r imm ∧
    ∀ s : State, exec (.sbcRI r imm) s = .next { s with result := some ⟨.SBC, some (selOperand r), some (.immediate (imm.setWidth 8)), [], none⟩ }) ∧
  -- `AND r,i`, R237
  (∀ (r : Sel) (imm : Nibble), decodeWord (0b110010#6 ++ r.bits ++ imm) = .andRI r imm ∧
    ∀ s : State, exec (.andRI r imm) s = .next { s with result := some ⟨.AND, some (selOperand r), some (.immediate (imm.setWidth 8)), [], none⟩ }) ∧
  -- `OR r,i`, R239
  (∀ (r : Sel) (imm : Nibble), decodeWord (0b110011#6 ++ r.bits ++ imm) = .orRI r imm ∧
    ∀ s : State, exec (.orRI r imm) s = .next { s with result := some ⟨.OR, some (selOperand r), some (.immediate (imm.setWidth 8)), [], none⟩ }) ∧
  -- `XOR r,i`, R241
  (∀ (r : Sel) (imm : Nibble), imm ≠ 0xF → decodeWord (0b110100#6 ++ r.bits ++ imm) = .xorRI r imm) ∧
  (∀ (r : Sel) (imm : Nibble) (s : State), exec (.xorRI r imm) s = .next { s with result := some ⟨.XOR, some (selOperand r), some (.immediate (imm.setWidth 8)), [], none⟩ }) ∧
  -- `CP r,i`, R243
  (∀ (r : Sel) (imm : Nibble), decodeWord (0b110111#6 ++ r.bits ++ imm) = .cpRI r imm ∧
    ∀ s : State, exec (.cpRI r imm) s = .next { s with result := some ⟨.CP, some (selOperand r), some (.immediate (imm.setWidth 8)), [], none⟩ }) ∧
  -- `FAN r,i`, R245
  (∀ (r : Sel) (imm : Nibble), decodeWord (0b110110#6 ++ r.bits ++ imm) = .fanRI r imm ∧
    ∀ s : State, exec (.fanRI r imm) s = .next { s with result := some ⟨.FAN, some (selOperand r), some (.immediate (imm.setWidth 8)), [], none⟩ }) ∧
  -- `NOT r`, R255
  (∀ (r : Sel), decodeWord (0b110100#6 ++ r.bits ++ 0b1111#4) = .notR r ∧
    ∀ s : State, exec (.notR r) s = .next { s with result := some ⟨.NOT, some (selOperand r), none, [], none⟩ })

/-- For each of ADD r,q, ADC r,q, SUB r,q, SBC r,q, AND r,q, OR r,q, XOR r,q, CP r,q, FAN r,q: the word written out
from the row's encoding, with every field at every value that reaches the row, decodes to the instruction, and in
every state exec of it answers the next state whose result has exactly the mnemonic, operands, edges and comment of
its rule, with every other part of the state (inputs, index, phase) unchanged. The spec marks these patterns as its
own decision D3 (general knowledge). -/
def Obligations.ArithmeticRegisterRowsDecodeAndRun : Prop :=
  -- `ADD r,q`, R231
  (∀ (r : Sel) (q : Sel), decodeWord (0b10101000#8 ++ r.bits ++ q.bits) = .addRQ r q ∧
    ∀ s : State, exec (.addRQ r q) s = .next { s with result := some ⟨.ADD, some (selOperand r), some (selOperand q), [], none⟩ }) ∧
  -- `ADC r,q`, R233
  (∀ (r : Sel) (q : Sel), decodeWord (0b10101001#8 ++ r.bits ++ q.bits) = .adcRQ r q ∧
    ∀ s : State, exec (.adcRQ r q) s = .next { s with result := some ⟨.ADC, some (selOperand r), some (selOperand q), [], none⟩ }) ∧
  -- `SUB r,q`, R234
  (∀ (r : Sel) (q : Sel), decodeWord (0b10101010#8 ++ r.bits ++ q.bits) = .subRQ r q ∧
    ∀ s : State, exec (.subRQ r q) s = .next { s with result := some ⟨.SUB, some (selOperand r), some (selOperand q), [], none⟩ }) ∧
  -- `SBC r,q`, R236
  (∀ (r : Sel) (q : Sel), decodeWord (0b10101011#8 ++ r.bits ++ q.bits) = .sbcRQ r q ∧
    ∀ s : State, exec (.sbcRQ r q) s = .next { s with result := some ⟨.SBC, some (selOperand r), some (selOperand q), [], none⟩ }) ∧
  -- `AND r,q`, R238
  (∀ (r : Sel) (q : Sel), decodeWord (0b10101100#8 ++ r.bits ++ q.bits) = .andRQ r q ∧
    ∀ s : State, exec (.andRQ r q) s = .next { s with result := some ⟨.AND, some (selOperand r), some (selOperand q), [], none⟩ }) ∧
  -- `OR r,q`, R240
  (∀ (r : Sel) (q : Sel), decodeWord (0b10101101#8 ++ r.bits ++ q.bits) = .orRQ r q ∧
    ∀ s : State, exec (.orRQ r q) s = .next { s with result := some ⟨.OR, some (selOperand r), some (selOperand q), [], none⟩ }) ∧
  -- `XOR r,q`, R242
  (∀ (r : Sel) (q : Sel), decodeWord (0b10101110#8 ++ r.bits ++ q.bits) = .xorRQ r q ∧
    ∀ s : State, exec (.xorRQ r q) s = .next { s with result := some ⟨.XOR, some (selOperand r), some (selOperand q), [], none⟩ }) ∧
  -- `CP r,q`, R244
  (∀ (r : Sel) (q : Sel), decodeWord (0b11110000#8 ++ r.bits ++ q.bits) = .cpRQ r q ∧
    ∀ s : State, exec (.cpRQ r q) s = .next { s with result := some ⟨.CP, some (selOperand r), some (selOperand q), [], none⟩ }) ∧
  -- `FAN r,q`, R246
  (∀ (r : Sel) (q : Sel), decodeWord (0b11110001#8 ++ r.bits ++ q.bits) = .fanRQ r q ∧
    ∀ s : State, exec (.fanRQ r q) s = .next { s with result := some ⟨.FAN, some (selOperand r), some (selOperand q), [], none⟩ })

/-- For each of RLC A, RLC B, RLC MX, RLC MY, RRC r, INC Mn, DEC Mn, ACPX MX,r, ACPY MY,r, SCPX MX,r, SCPY MY,r: the
word written out from the row's encoding, with every field at every value that reaches the row, decodes to the
instruction, and in every state exec of it answers the next state whose result has exactly the mnemonic, operands,
edges and comment of its rule, with every other part of the state (inputs, index, phase) unchanged. The spec marks
these patterns as its own decision D3 (general knowledge). -/
def Obligations.RotateCountAndMemoryCarryRowsDecodeAndRun : Prop :=
  -- `RLC A`, R247
  (decodeWord (0b101011110000#12) = .rlcA ∧ ∀ s : State, exec .rlcA s = .next { s with result := some ⟨.RLC, some (.register .A), none, [], none⟩ }) ∧
  -- `RLC B`, R247
  (decodeWord (0b101011110101#12) = .rlcB ∧ ∀ s : State, exec .rlcB s = .next { s with result := some ⟨.RLC, some (.register .B), none, [], none⟩ }) ∧
  -- `RLC MX`, R247
  (decodeWord (0b101011111010#12) = .rlcMX ∧ ∀ s : State, exec .rlcMX s = .next { s with result := some ⟨.RLC, some (.registerIndirect .X), none, [], none⟩ }) ∧
  -- `RLC MY`, R247
  (decodeWord (0b101011111111#12) = .rlcMY ∧ ∀ s : State, exec .rlcMY s = .next { s with result := some ⟨.RLC, some (.registerIndirect .Y), none, [], none⟩ }) ∧
  -- `RRC r`, R248
  (∀ (r : Sel), decodeWord (0b1110100011#10 ++ r.bits) = .rrcR r ∧
    ∀ s : State, exec (.rrcR r) s = .next { s with result := some ⟨.RRC, some (selOperand r), none, [], none⟩ }) ∧
  -- `INC Mn`, R249
  (∀ (n : Nibble), decodeWord (0b11110110#8 ++ n) = .incMn n ∧
    ∀ s : State, exec (.incMn n) s = .next { s with result := some ⟨.INC, some (.register (.M n)), none, [], none⟩ }) ∧
  -- `DEC Mn`, R250
  (∀ (n : Nibble), decodeWord (0b11110111#8 ++ n) = .decMn n ∧
    ∀ s : State, exec (.decMn n) s = .next { s with result := some ⟨.DEC, some (.register (.M n)), none, [], none⟩ }) ∧
  -- `ACPX MX,r`, R251
  (∀ (r : Sel), decodeWord (0b1111001010#10 ++ r.bits) = .acpx r ∧
    ∀ s : State, exec (.acpx r) s = .next { s with result := some ⟨.ACPX, some (.registerIndirect .X), some (selOperand r), [], none⟩ }) ∧
  -- `ACPY MY,r`, R252
  (∀ (r : Sel), decodeWord (0b1111001011#10 ++ r.bits) = .acpy r ∧
    ∀ s : State, exec (.acpy r) s = .next { s with result := some ⟨.ACPY, some (.registerIndirect .Y), some (selOperand r), [], none⟩ }) ∧
  -- `SCPX MX,r`, R253
  (∀ (r : Sel), decodeWord (0b1111001110#10 ++ r.bits) = .scpx r ∧
    ∀ s : State, exec (.scpx r) s = .next { s with result := some ⟨.SCPX, some (.registerIndirect .X), some (selOperand r), [], none⟩ }) ∧
  -- `SCPY MY,r`, R254
  (∀ (r : Sel), decodeWord (0b1111001111#10 ++ r.bits) = .scpy r ∧
    ∀ s : State, exec (.scpy r) s = .next { s with result := some ⟨.SCPY, some (.registerIndirect .Y), some (selOperand r), [], none⟩ }) ∧
  -- the neighbouring words that match no row (corner cases)
  (∀ w ∈ ([0xAF1, 0xAF2, 0xAF3, 0xAF4, 0xAF6, 0xAF7, 0xAF8, 0xAF9, 0xAFB, 0xAFC, 0xAFD, 0xAFE, 0xF20, 0xF21, 0xF22, 0xF23, 0xF24, 0xF25, 0xF26, 0xF27, 0xF30, 0xF31, 0xF32, 0xF33, 0xF34, 0xF35, 0xF36, 0xF37] : List Word12), decodeWord w = .unknown w)

/-- The two-bit selector values 0 to 3 give Register(A), Register(B), RegisterIndirect(X), RegisterIndirect(Y), as
operands and in each of the three sub-fields; a 4-bit, 5-bit or 8-bit immediate is taken unchanged and zero-extended
to 8 bits; an address operand is the 8-bit step zero-extended to 16; Mn names M of the lower nibble; fixed register,
index and condition names stand as they are. The selector coding and the tags are the spec's own decisions D3, D9,
D13, D14. -/
def Obligations.OperandBuildersZeroExtend : Prop :=
  (selOperand .a = .register .A ∧ selOperand .b = .register .B ∧ selOperand .mx = .registerIndirect .X ∧
    selOperand .my = .registerIndirect .Y ∧ Sel.a.bits = 0 ∧ Sel.b.bits = 1 ∧ Sel.mx.bits = 2 ∧ Sel.my.bits = 3) ∧
  (∀ (w : Word12) (f : SelField), buildOperand w (.rq f) =
    match (match f with | .sel54 => w.extractLsb' 4 2 | .sel32 => w.extractLsb' 2 2 | .sel10 => w.extractLsb' 0 2).toNat with
    | 0 => .register .A
    | 1 => .register .B
    | 2 => .registerIndirect .X
    | _ => .registerIndirect .Y) ∧
  (∀ w : Word12, buildOperand w (.imm .lower) = .immediate ((w.extractLsb' 0 4).setWidth 8) ∧
    buildOperand w (.imm .imm5) = .immediate ((w.extractLsb' 0 5).setWidth 8) ∧
    buildOperand w (.imm .combinedLow8) = .immediate (w.extractLsb' 0 8)) ∧
  (∀ w : Word12, buildOperand w .addr = .address ((w.extractLsb' 0 8).setWidth 16)) ∧
  (∀ w : Word12, buildOperand w .mn = .register (.M (w.extractLsb' 0 4))) ∧
  (∀ (w : Word12) (n : RegName) (x : IndexName) (c : CondName), buildOperand w (.reg n) = .register n ∧
    buildOperand w (.ind x) = .registerIndirect x ∧ buildOperand w (.cond c) = .conditionName c)

/-- For every page record and step, JpTarget is 19 zeros followed by the five bits of page_rec and the eight of the
step; it equals bank_bit * 4096 + page_nibble * 256 + step, with the bank bit page_rec[4] and the page nibble
page_rec[3:0]. -/
def Obligations.JumpTargetIsBankPageAndStep : Prop :=
  ∀ (pageRec : PageValue) (disp : Byte), jpTarget pageRec disp = 0#19 ++ pageRec ++ disp ∧
    (jpTarget pageRec disp).toNat =
      (pageRec.extractLsb' 4 1).toNat * 4096 + (pageRec.extractLsb' 0 4).toNat * 256 + disp.toNat

/-- For every address, page record and step: CallTarget is (address & 0x1F00) | step under the parameters of this
spec, and takes the page nibble from page_rec[3:0] under CALL_PAGE_SOURCE = page_rec; CalzTarget is (address & 0x1000)
| step; NextAddr is address + 1 mod 2^32, so 0x1FFF gives 0x2000 and 0xFFFFFFFF gives 0. The parameter values are the
spec's own decisions D6, D7, D8. -/
def Obligations.CallTargetsAndNextAddressComeFromTheAddress : Prop :=
  (∀ (address : WordAddr) (pageRec : PageValue) (disp : Byte),
    callTarget Config.params.callPageSource address pageRec disp = (address &&& 0x1F00) ||| disp.setWidth 32 ∧
    callTarget .pageRec address pageRec disp =
      (address &&& 0x1000) ||| ((pageRec.extractLsb' 0 4).setWidth 32 <<< 8) ||| disp.setWidth 32 ∧
    calzTarget Config.params.calzPage address disp = (address &&& 0x1000) ||| disp.setWidth 32) ∧
  (∀ address : WordAddr, (nextAddr address).toNat = (address.toNat + 1) % 2 ^ 32) ∧
  nextAddr 0x1FFF = 0x2000 ∧ nextAddr 0xFFFFFFFF = 0

/-- For every state with a word w: the step's result has the edge list of w's class: one Unconditional edge for upper
nibble 0, a True and False pair for 2, 3, 6, 7 with the False edge at address + 1, one CallDestination for 4 and 5,
Indirect without a target for 0xFE8, FunctionReturn without a target for upper nibble 1 and words 0xFDE and 0xFDF, and
none for every other word; and it has a False edge exactly for those four upper nibbles. The lists are the spec's own
decision D12. -/
def Obligations.EdgeListsFollowTheWord : Prop :=
  ∀ (s : State) (w : Word12), wordOf s.bytes = .ok w → ∃ t d, step s = .next t ∧ t.result = some d ∧
    d.branchEdges = edgesByWord w s.address (boundPageRec s) ∧
    ((∃ e ∈ d.branchEdges, e.kind = .falseBranch) ↔ upper w = 0x2 ∨ upper w = 0x3 ∨ upper w = 0x6 ∨ upper w = 0x7)

/-- For every state with a word w the step answers with a result whose comment is SkipOnReturn if w is 0xFDE, the word
of RETS, and none otherwise. That RETS is the word so marked is the spec's own decision D11. -/
def Obligations.CommentMarksReturnAndSkipAlone : Prop :=
  ∀ (s : State) (w : Word12), wordOf s.bytes = .ok w → ∃ t d, step s = .next t ∧ t.result = some d ∧
    d.comment = (if w = 0xFDE then some .skipOnReturn else none) ∧ (d.comment.isSome = true ↔ d.mnemonic = .RETS)

/-- For every state with a word w the step answers with a result whose first operand is a condition name exactly when
the upper nibble is 2 (C), 3 (NC), 6 (Z) or 7 (NZ), and then that name; the second operand never is one. Names and
nibble values are the spec's own decision D10. -/
def Obligations.ConditionNamesFollowTheUpperNibble : Prop :=
  ∀ (s : State) (w : Word12), wordOf s.bytes = .ok w → ∃ t d, step s = .next t ∧ t.result = some d ∧
    (∀ c, d.operand1 = some (.conditionName c) ↔ (upper w = 0x2 ∧ c = .C) ∨ (upper w = 0x3 ∧ c = .NC) ∨
      (upper w = 0x6 ∧ c = .Z) ∨ (upper w = 0x7 ∧ c = .NZ)) ∧
    ∀ c, d.operand2 ≠ some (.conditionName c)

/-- For two calls on the same bytes: unless the upper nibble is 0, 2, 3, 6 or 7 the result does not depend on the page
value, and if it is one of these, equal results mean equal page values; unless it is 2, 3, 6, 7, 4 or 5 the result
does not depend on the address, for 4 it depends on address bits 12:8 only, for 5 on bit 12 only, and for 2, 3, 6, 7
equal results mean equal addresses. -/
def Obligations.OnlyJumpsReadThePageAndOnlyBranchesTheAddress : Prop :=
  ∀ (bytes : List Byte) (w : Word12) (a a' : WordAddr) (p p' : PageValue) (d d' : DecodedInstruction),
    wordOf bytes = .ok w → decodeCall bytes a p = .ok d → decodeCall bytes a' p' = .ok d' →
    (upper w ∉ ([0x0, 0x2, 0x3, 0x6, 0x7] : List Nibble) → a = a' → d = d') ∧
    (upper w ∈ ([0x0, 0x2, 0x3, 0x6, 0x7] : List Nibble) → d = d' → p = p') ∧
    (upper w ∉ ([0x2, 0x3, 0x4, 0x5, 0x6, 0x7] : List Nibble) → p = p' → d = d') ∧
    (upper w = 0x4 → (d = d' ↔ a.extractLsb' 8 5 = a'.extractLsb' 8 5)) ∧
    (upper w = 0x5 → (d = d' ↔ a.extractLsb' 12 1 = a'.extractLsb' 12 1)) ∧
    (upper w ∈ ([0x2, 0x3, 0x6, 0x7] : List Nibble) → d = d' → a = a')

/-- At State.reset the index is in canonical form and there is no ill-shaped result (there is none at all: log entry
4). -/
def Obligations.ResetKeepsTheInvariant : Prop :=
  Inv State.reset

/-- From every state with a canonical index and a well-shaped last result, reached by a run or not, a step that
answers leads to such a state: at most one record per address in rising order; operand2 only with operand1; one of the
seven edge lists; assembled targets below 0x2000; a comment on RETS alone; address operands below 0x100. -/
def Obligations.EveryStepKeepsTheInvariant : Prop :=
  ∀ s t : State, Inv s → step s = .next t → Inv t

/-- For every instruction of the table, well-formed or not, and every state, exec answers a next state that differs
from the state in the result alone, and that result has the shape of the rules: inputs, index and phase stay. -/
def Obligations.NoInstructionChangesMoreThanTheResult : Prop :=
  ∀ (i : Instr) (s : State), ∃ d, exec i s = .next { s with result := some d } ∧ ResultWf d

/-- In a canonical index: if some record stands at the address, insert changes nothing; otherwise the records
afterwards are those before and the new one. -/
def Obligations.InsertKeepsTheFirstValueAtAnAddress : Prop :=
  ∀ (ix : List PageRecord) (a : WordAddr) (v : PageValue), IndexWf ix →
    ((∃ r ∈ ix, r.address = a) → insertRecord a v ix = ix) ∧
    ((∀ r ∈ ix, r.address ≠ a) → ∀ r, r ∈ insertRecord a v ix ↔ r = ⟨a, v⟩ ∨ r ∈ ix)

/-- In a canonical index: if some record stands at or below x, query(x) is a record of the index, at or below x, and
no record at or below x has a greater address; if none does, the page value is 0x01. The default record's address is
free and not stated. -/
def Obligations.QueryAnswersTheGreatestAddressAtOrBelow : Prop :=
  ∀ (ix : List PageRecord) (x : WordAddr), IndexWf ix →
    ((∃ r ∈ ix, r.address.toNat ≤ x.toNat) → Governs ix x (query ix x)) ∧
    ((∀ r ∈ ix, x.toNat < r.address.toNat) → (query ix x).pageValue = 0x01)

/-- From a canonical index, a step that answers leaves every record of the index in it, and afterwards no two records
have the same address. -/
def Obligations.IndexIsAppendOnlyWithOneRecordPerAddress : Prop :=
  ∀ s t : State, IndexWf s.index → step s = .next t →
    (∀ r ∈ s.index, r ∈ t.index) ∧ ∀ r ∈ t.index, ∀ r' ∈ t.index, r.address = r'.address → r = r'

/-- From a state whose index is finished, a step that answers leaves index and phase as they are and page_rec at the
page value of the query at the address. -/
def Obligations.FinishedIndexIsReadOnly : Prop :=
  ∀ s t : State, s.phase = .finished → step s = .next t →
    t.index = s.index ∧ t.phase = .finished ∧ t.pageRec = (query s.index s.address).pageValue

/-- For every image with each word-address once and bytes at each, and every state: booting answers a next state whose
index is finished, canonical, and holds the record (a, p) exactly when the word at a decodes to PSET p; and no later
call changes that index. -/
def Obligations.BootRecordsExactlyThePageSettingWords : Prop :=
  ∀ (image : Image) (s : State), ImageWf image → ∃ t, boot image s = .next t ∧ t.phase = .finished ∧ IndexWf t.index ∧
    (∀ a p, (⟨a, p⟩ : PageRecord) ∈ t.index ↔ HoldsPset image a p) ∧
    ∀ bytes a u, decodeSrc bytes a t = .next u → u.index = t.index

/-- For two orders of one image and any two states, booting leads to the same index: the sweep may go in any order,
and nothing of the state before it is left. -/
def Obligations.BootOrderDoesNotMatter : Prop :=
  ∀ (image image' : Image) (s s' t t' : State), ImageWf image → image.Perm image' →
    boot image s = .next t → boot image' s' = .next t' → t.index = t'.index

/-- For every image booted from any state, every word of the five JP rows presented at address a, and the page value p
that governs a in the image (that of the PSET of greatest address at or below a, or 0x01 if no PSET stands at or below
a): JP s has one Unconditional edge to p followed by the step; JP C, NC, Z, NZ (upper nibble 2, 3, 6, 7) have a True
edge to p followed by the step and a False edge to a + 1. So under the default the target is 0x0100 | step. Address
order decides, not execution order. -/
def Obligations.JumpAfterBootFollowsTheNearestPageSettingBelow : Prop :=
  ∀ (image : Image) (s t : State) (bytes : List Byte) (a : WordAddr) (w : Word12) (p : PageValue), ImageWf image →
    boot image s = .next t → wordOf bytes = .ok w → PageAt image a p →
    (upper w = 0x0 → ∃ u, decodeSrc bytes a t = .next u ∧
      u.result = some ⟨.JP, some (.address ((combinedLow8 w).setWidth 16)), none,
        [⟨.unconditional, some (0#19 ++ p ++ combinedLow8 w)⟩], none⟩) ∧
    (∀ c : CondName, (upper w, c) ∈ ([(0x2, .C), (0x3, .NC), (0x6, .Z), (0x7, .NZ)] : List (Nibble × CondName)) →
      ∃ u, decodeSrc bytes a t = .next u ∧
        u.result = some ⟨.JP, some (.conditionName c), some (.address ((combinedLow8 w).setWidth 16)),
          [⟨.trueBranch, some (0#19 ++ p ++ combinedLow8 w)⟩, ⟨.falseBranch, some (a + 1)⟩], none⟩)

/-- For every state with a finished index, bytes and address, the call decode_src gives the result of the three-input
block at the queried page value, or InvalidInput where that does; and page_rec is driven with that value in every step
on a finished index. -/
def Obligations.TwoArgumentCallBindsTheQueriedPage : Prop :=
  (∀ (s : State) (bytes : List Byte) (a : WordAddr), s.phase = .finished →
    match decodeCall bytes a (query s.index a).pageValue with
    | .ok d => ∃ t, decodeSrc bytes a s = .next t ∧ t.result = some d ∧ t.pageRec = (query s.index a).pageValue
    | .error _ => decodeSrc bytes a s = .fault .invalidInput) ∧
  (∀ s t : State, s.phase = .finished → step s = .next t → t.pageRec = (query s.index s.address).pageValue)

/-- For every state whose index is still being built the environment-level call decode_src is refused with
indexNotFinished; the block itself (step) never refuses. The refusal is what the spec tells a model to do (U6, log
entry 14). -/
def Obligations.TwoArgumentCallNeedsAFinishedIndex : Prop :=
  (∀ (s : State) (bytes : List Byte) (a : WordAddr), s.phase = .building →
    decodeSrc bytes a s = .refused .indexNotFinished) ∧
  (∀ (s : State) (r : Refusal), step s ≠ .refused r)

/-- In a state with a canonical index that holds a record at address a, calling the block at a with any other bytes,
another PSET among them, leaves the index unchanged: it is stale until it is built anew. -/
def Obligations.IndexDoesNotTrackAChangedImage : Prop :=
  ∀ (s t : State) (a : WordAddr) (bytes : List Byte), IndexWf s.index → (∃ r ∈ s.index, r.address = a) →
    step (s.present bytes a) = .next t → t.index = s.index

/-- For every drive of the input ports that carries bytes, address and page record (with any value in bits 15:8 of the
bus for a single byte, and anything on it for none): if the block gives the result d, out_invalid_input is 0 and the
output ports read back as d; if it gives InvalidInput, out_invalid_input is 1. Bits that carry nothing are free (log
entry 10). The codes are the spec's own decisions D5, D15. -/
def Obligations.PortsCarryTheResult : Prop :=
  ∀ (pin : PortIn) (bytes : List Byte) (a : WordAddr) (p : PageValue), Carries pin bytes a p →
    match decodeCall bytes a p with
    | .ok d => (portBlock pin).invalidInput = false ∧ readPorts (portBlock pin) = some d
    | .error _ => (portBlock pin).invalidInput = true

/-- For each pair of the alias table (SCF and SET F,1 to INC Y and LDPY A,A): both have the same word, the general
form is not well-formed with that operand, and the word decodes to the alias; and a term that is not well-formed and
no UNKNOWN is the general form of exactly one alias. The table is general knowledge (decision D16). -/
def Obligations.AliasesAreInstancesOfTheirGeneralRow : Prop :=
  (∀ i g : Instr, aliasOf i = some g →
    encode i = encode g ∧ i.wellFormed = true ∧ g.wellFormed = false ∧ decode (encodeBytes g) = .ok i) ∧
  (∀ g : Instr, g.wellFormed = false → (∀ w, g ≠ .unknown w) →
    ∃ i, aliasOf i = some g ∧ ∀ j, aliasOf j = some g → j = i)

/-- For every word-address the displayed byte-address is exactly twice it, without wrap, and that of the following
instruction is two more where the address does not wrap. For every result the targets on display are its edges'
targets in order, each doubled, an edge without a target showing none. An address operand is shown doubled, an
immediate as it is. -/
def Obligations.DisplayDoublesEveryAddress : Prop :=
  (∀ a : WordAddr, (displayAddress a).toNat = 2 * a.toNat ∧
    (a.toNat + 1 < 2 ^ 32 → (displayAddress (nextAddr a)).toNat = 2 * a.toNat + 2)) ∧
  (∀ d : DecodedInstruction, displayTargets d =
    d.branchEdges.map fun e => match e.target with | some a => some (2 * a.toNat) | none => none) ∧
  (∀ a : BitVec 16, displayOperand (.address a) = .hex (2 * a.toNat)) ∧
  ∀ v : Byte, displayOperand (.immediate v) = .hex v.toNat

/-- For every result the tokens on display are the name of its mnemonic then its present operands in the order of
their slots, then its comment if it has one, and no other. Every mnemonic, every register and every condition is shown
as the symbol that is its name, M followed by one hexadecimal digit for the sixteen memory names, and the memory at X
and Y as MX and MY. The names are the spec's own (decisions D9, D10, D16); the separator, the form of a number and the
wording of the comment are not given (log entry 17). -/
def Obligations.DisplayShowsNamesAsSymbols : Prop :=
  (∀ (m : Mnemonic) (e : List BranchEdge) (o o' : Operand) (c : Comment),
    displayTokens ⟨m, none, none, e, none⟩ = [.symbol (mnemonicSpelling m)] ∧
    displayTokens ⟨m, some o, none, e, none⟩ = [.symbol (mnemonicSpelling m), displayOperand o] ∧
    displayTokens ⟨m, none, some o', e, none⟩ = [.symbol (mnemonicSpelling m), displayOperand o'] ∧
    displayTokens ⟨m, some o, some o', e, none⟩ = [.symbol (mnemonicSpelling m), displayOperand o, displayOperand o'] ∧
    displayTokens ⟨m, none, none, e, some c⟩ = [.symbol (mnemonicSpelling m), .comment c] ∧
    displayTokens ⟨m, some o, none, e, some c⟩ = [.symbol (mnemonicSpelling m), displayOperand o, .comment c] ∧
    displayTokens ⟨m, none, some o', e, some c⟩ = [.symbol (mnemonicSpelling m), displayOperand o', .comment c] ∧
    displayTokens ⟨m, some o, some o', e, some c⟩ =
      [.symbol (mnemonicSpelling m), displayOperand o, displayOperand o', .comment c]) ∧
  mnemonicOrder.map mnemonicSpelling =
    ["UNKNOWN", "ACPX", "ACPY", "ADC", "ADD", "AND", "CALL", "CALZ", "CP", "DEC", "DI", "EI", "FAN",
     "HALT", "INC", "JP", "JPBA", "LBPX", "LD", "LDPX", "LDPY", "NOP5", "NOP7", "NOT", "OR", "POP",
     "PSET", "PUSH", "RCF", "RDF", "RET", "RETD", "RETS", "RLC", "RRC", "RST", "RZF", "SBC", "SCF",
     "SCPX", "SCPY", "SDF", "SET", "SLP", "SUB", "SZF", "XOR"] ∧
  ([.A, .B, .X, .Y, .XP, .XH, .XL, .YP, .YH, .YL, .SP, .SPH, .SPL, .F].map fun n => displayOperand (.register n)) =
    ["A", "B", "X", "Y", "XP", "XH", "XL", "YP", "YH", "YL", "SP", "SPH", "SPL", "F"].map .symbol ∧
  ((List.range 16).map fun n => displayOperand (.register (.M (BitVec.ofNat 4 n)))) =
    ["M0", "M1", "M2", "M3", "M4", "M5", "M6", "M7", "M8", "M9", "MA", "MB", "MC", "MD", "ME", "MF"].map .symbol ∧
  displayOperand (.registerIndirect .X) = .symbol "MX" ∧ displayOperand (.registerIndirect .Y) = .symbol "MY" ∧
  ([.C, .NC, .Z, .NZ].map fun c => displayOperand (.conditionName c)) = ["C", "NC", "Z", "NZ"].map .symbol
end

