-- ==== Sys2Proof/Laws/State.lean ====
section
/-! SUPPORT. One lemma per field per update of the state, so that no later proof unfolds a record update. -/

namespace Sys2Proof.Machine

@[simp] theorem State.withResult_bytes (s : State) (d : DecodedInstruction) : (s.withResult d).bytes = s.bytes := rfl
@[simp] theorem State.withResult_address (s : State) (d : DecodedInstruction) : (s.withResult d).address = s.address := rfl
@[simp] theorem State.withResult_pageRec (s : State) (d : DecodedInstruction) : (s.withResult d).pageRec = s.pageRec := rfl
@[simp] theorem State.withResult_result (s : State) (d : DecodedInstruction) : (s.withResult d).result = some d := rfl
@[simp] theorem State.withResult_index (s : State) (d : DecodedInstruction) : (s.withResult d).index = s.index := rfl
@[simp] theorem State.withResult_phase (s : State) (d : DecodedInstruction) : (s.withResult d).phase = s.phase := rfl

@[simp] theorem State.bindPageRec_bytes (s : State) : s.bindPageRec.bytes = s.bytes := rfl
@[simp] theorem State.bindPageRec_address (s : State) : s.bindPageRec.address = s.address := rfl
@[simp] theorem State.bindPageRec_pageRec (s : State) : s.bindPageRec.pageRec = boundPageRec s := rfl
@[simp] theorem State.bindPageRec_result (s : State) : s.bindPageRec.result = s.result := rfl
@[simp] theorem State.bindPageRec_index (s : State) : s.bindPageRec.index = s.index := rfl
@[simp] theorem State.bindPageRec_phase (s : State) : s.bindPageRec.phase = s.phase := rfl

@[simp] theorem State.recordPset_bytes (s : State) : s.recordPset.bytes = s.bytes := rfl
@[simp] theorem State.recordPset_address (s : State) : s.recordPset.address = s.address := rfl
@[simp] theorem State.recordPset_pageRec (s : State) : s.recordPset.pageRec = s.pageRec := rfl
@[simp] theorem State.recordPset_result (s : State) : s.recordPset.result = s.result := rfl
@[simp] theorem State.recordPset_index (s : State) : s.recordPset.index = indexAfterCall s := rfl
@[simp] theorem State.recordPset_phase (s : State) : s.recordPset.phase = s.phase := rfl

@[simp] theorem State.present_bytes (s : State) (bytes : List Byte) (a : WordAddr) : (s.present bytes a).bytes = bytes := rfl
@[simp] theorem State.present_address (s : State) (bytes : List Byte) (a : WordAddr) : (s.present bytes a).address = a := rfl
@[simp] theorem State.present_pageRec (s : State) (bytes : List Byte) (a : WordAddr) : (s.present bytes a).pageRec = s.pageRec := rfl
@[simp] theorem State.present_result (s : State) (bytes : List Byte) (a : WordAddr) : (s.present bytes a).result = s.result := rfl
@[simp] theorem State.present_index (s : State) (bytes : List Byte) (a : WordAddr) : (s.present bytes a).index = s.index := rfl
@[simp] theorem State.present_phase (s : State) (bytes : List Byte) (a : WordAddr) : (s.present bytes a).phase = s.phase := rfl

@[simp] theorem State.drivePageRec_bytes (s : State) (v : PageValue) : (s.drivePageRec v).bytes = s.bytes := rfl
@[simp] theorem State.drivePageRec_address (s : State) (v : PageValue) : (s.drivePageRec v).address = s.address := rfl
@[simp] theorem State.drivePageRec_pageRec (s : State) (v : PageValue) : (s.drivePageRec v).pageRec = v := rfl
@[simp] theorem State.drivePageRec_result (s : State) (v : PageValue) : (s.drivePageRec v).result = s.result := rfl
@[simp] theorem State.drivePageRec_index (s : State) (v : PageValue) : (s.drivePageRec v).index = s.index := rfl
@[simp] theorem State.drivePageRec_phase (s : State) (v : PageValue) : (s.drivePageRec v).phase = s.phase := rfl

@[simp] theorem State.startIndex_bytes (s : State) : s.startIndex.bytes = s.bytes := rfl
@[simp] theorem State.startIndex_address (s : State) : s.startIndex.address = s.address := rfl
@[simp] theorem State.startIndex_pageRec (s : State) : s.startIndex.pageRec = s.pageRec := rfl
@[simp] theorem State.startIndex_result (s : State) : s.startIndex.result = s.result := rfl
@[simp] theorem State.startIndex_index (s : State) : s.startIndex.index = [] := rfl
@[simp] theorem State.startIndex_phase (s : State) : s.startIndex.phase = .building := rfl

@[simp] theorem State.finishIndex_bytes (s : State) : s.finishIndex.bytes = s.bytes := rfl
@[simp] theorem State.finishIndex_address (s : State) : s.finishIndex.address = s.address := rfl
@[simp] theorem State.finishIndex_pageRec (s : State) : s.finishIndex.pageRec = s.pageRec := rfl
@[simp] theorem State.finishIndex_result (s : State) : s.finishIndex.result = s.result := rfl
@[simp] theorem State.finishIndex_index (s : State) : s.finishIndex.index = s.index := rfl
@[simp] theorem State.finishIndex_phase (s : State) : s.finishIndex.phase = .finished := rfl

@[simp] theorem State.withFetchWord_bytes (s : State) (nbits w : Nat) : (s.withFetchWord nbits w).bytes = tableWordBytes nbits w := rfl
@[simp] theorem State.withFetchWord_address (s : State) (nbits w : Nat) : (s.withFetchWord nbits w).address = s.address := rfl
@[simp] theorem State.withFetchWord_pageRec (s : State) (nbits w : Nat) : (s.withFetchWord nbits w).pageRec = s.pageRec := rfl
@[simp] theorem State.withFetchWord_result (s : State) (nbits w : Nat) : (s.withFetchWord nbits w).result = s.result := rfl
@[simp] theorem State.withFetchWord_index (s : State) (nbits w : Nat) : (s.withFetchWord nbits w).index = s.index := rfl
@[simp] theorem State.withFetchWord_phase (s : State) (nbits w : Nat) : (s.withFetchWord nbits w).phase = s.phase := rfl

/-- Recording a result twice keeps the second. -/
@[simp] theorem State.withResult_withResult (s : State) (d d' : DecodedInstruction) :
    (s.withResult d).withResult d' = s.withResult d' := rfl

end Sys2Proof.Machine
end

