-- ==== Sys2Proof/Laws/Ops.lean ====
section
/-! SUPPORT. For each shared operation, what it can do, said once. -/

namespace Sys2Proof.Machine

/-! ### Results -/

/-- `emit` always answers, and only records the result. -/
@[simp] theorem emit_eq (s : State) (d : DecodedInstruction) : emit s d = .next (s.withResult d) := rfl

/-- `emitPlain` always answers, with no edge and no comment. -/
@[simp] theorem emitPlain_eq (s : State) (m : Mnemonic) (op1 op2 : Option Operand) :
    emitPlain s m op1 op2 = .next (s.withResult ⟨m, op1, op2, [], none⟩) := rfl

/-- The one error is the one fault. -/
@[simp] theorem raise_eq (e : DecodeError) : raise e = .fault .invalidInput := by cases e; rfl

/-- If the environment's reaction answers a next state, the call did, and only the index may differ. -/
theorem afterCall_next {o : Result} {t : State} (h : afterCall o = .next t) : ∃ s, o = .next s ∧ t = s.recordPset := by
  cases o with
  | next s => exact ⟨s, rfl, by injection h with h; exact h.symm⟩
  | fault f => cases h
  | refused r => cases h

/-- The reaction never makes or hides a fault. -/
theorem afterCall_fault {o : Result} {f : Fault} : afterCall o = .fault f ↔ o = .fault f := by
  cases o <;> simp [afterCall]

/-! ### Bytes to words -/

/-- The word of a container given byte by byte; only no bytes at all are rejected. -/
theorem wordOf_ok_of_ne_nil : ∀ {bytes : List Byte}, bytes ≠ [] → ∃ w, wordOf bytes = .ok w
  | [], h => absurd rfl h
  | [b], _ => ⟨_, rfl⟩
  | [b, b'], _ => ⟨_, rfl⟩
  | _ :: b :: b' :: rest, _ => by
    obtain ⟨w, hw⟩ := wordOf_ok_of_ne_nil (bytes := b :: b' :: rest) (by simp)
    exact ⟨w, by simpa [wordOf, containerOf] using hw⟩

/-- A word comes from some bytes. -/
theorem ne_nil_of_wordOf_ok {bytes : List Byte} {w : Word12} (h : wordOf bytes = .ok w) : bytes ≠ [] := by
  rintro rfl; cases h

/-- Decoding answers exactly where there is a word, and then with that word's instruction. -/
theorem decode_ok_iff {bytes : List Byte} {i : Instr} :
    decode bytes = .ok i ↔ ∃ w, wordOf bytes = .ok w ∧ decodeWord w = i := by
  unfold decode
  cases h : wordOf bytes <;> simp

/-- No bytes are rejected with the one error. -/
@[simp] theorem decode_nil : decode [] = .error .invalidInput := rfl

/-- The code of a selector is read back as the selector. -/
@[simp] theorem Sel_ofBits_bits (r : Sel) : Sel.ofBits r.bits = r := by cases r <;> rfl

/-- A selector code is the code of what it is read as. -/
@[simp] theorem Sel_bits_ofBits (b : BitVec 2) : (Sel.ofBits b).bits = b := by revert b; decide

/-! ### The Page State Index -/

/-- What an insertion can leave in the index: the new record, or what was there. -/
theorem mem_of_mem_insertRecord {a : WordAddr} {v : PageValue} {r : PageRecord} :
    ∀ {ix : List PageRecord}, r ∈ insertRecord a v ix → r = ⟨a, v⟩ ∨ r ∈ ix
  | [], h => by simpa [insertRecord] using h
  | q :: rest, h => by
    unfold insertRecord at h
    split at h
    · simpa using h
    · split at h
      · exact .inr h
      · rcases List.mem_cons.mp h with rfl | h
        · exact .inr (by simp)
        · rcases mem_of_mem_insertRecord h with h | h
          · exact .inl h
          · exact .inr (by simp [h])

/-- An insertion keeps the canonical form. -/
theorem insertRecord_wf {a : WordAddr} {v : PageValue} :
    ∀ {ix : List PageRecord}, IndexWf ix → IndexWf (insertRecord a v ix)
  | [], _ => by simp [insertRecord]
  | q :: rest, h => by
    obtain ⟨hq, hrest⟩ := List.pairwise_cons.mp h
    unfold insertRecord
    split
    · rename_i hlt
      refine List.pairwise_cons.mpr ⟨fun r hr => ?_, h⟩
      rcases List.mem_cons.mp hr with rfl | hr
      · exact hlt
      · exact lt_trans hlt (hq r hr)
    · split
      · exact h
      · rename_i hge hne
        refine List.pairwise_cons.mpr ⟨fun r hr => ?_, insertRecord_wf hrest⟩
        rcases mem_of_mem_insertRecord hr with rfl | hr
        · have : q.address.toNat ≠ a.toNat := fun he => hne (BitVec.eq_of_toNat_eq he.symm)
          simp only at *
          omega
        · exact hq r hr

/-- The environment's reaction keeps the canonical form. -/
theorem indexAfterCall_wf {s : State} (h : IndexWf s.index) : IndexWf (indexAfterCall s) := by
  unfold indexAfterCall
  split
  · exact insertRecord_wf h
  · exact h

/-- A finished index is left as it is. -/
theorem indexAfterCall_finished {s : State} (h : s.phase = .finished) : indexAfterCall s = s.index := by
  unfold indexAfterCall
  split
  · rename_i hb _; rw [h] at hb; cases hb
  · rfl

/-- After reset the index is in canonical form. -/
theorem reset_indexWf : IndexWf State.reset.index := by decide

/-! ### The environment's procedure -/

/-- If `decode_src` answers a next state, the index was finished and the block was called. -/
theorem decodeSrc_next {bytes : List Byte} {a : WordAddr} {s t : State} (h : decodeSrc bytes a s = .next t) :
    s.phase = .finished ∧ step (s.present bytes a) = .next t := by
  unfold decodeSrc at h
  split at h
  · cases h
  · exact ⟨‹_›, h⟩

/-- If the sweep of an image answers a next state, its first call did, and the rest of the sweep went on from there. -/
theorem callAll_cons_next {a : WordAddr} {bytes : List Byte} {rest : Image} {s u : State}
    (h : callAll ((a, bytes) :: rest) s = .next u) :
    ∃ t, step (s.present bytes a) = .next t ∧ callAll rest t = .next u := by
  unfold callAll at h
  split at h
  · exact ⟨_, ‹_›, h⟩
  · cases h
  · cases h

/-- If booting answers a next state, the sweep did from an empty index, and the index is then finished. -/
theorem boot_next {image : Image} {s u : State} (h : boot image s = .next u) :
    ∃ t, callAll image s.startIndex = .next t ∧ u = t.finishIndex := by
  unfold boot at h
  split at h
  · exact ⟨_, ‹_›, by injection h with h; exact h.symm⟩
  · cases h
  · cases h

end Sys2Proof.Machine
end

