-- ==== Sys2Proof/Laws/PerInstr.lean ====
section
/-! SUPPORT. Per instruction: the encoded word carries the fixed bits of the instruction's own row (30_encoding.md rules
R61, R67, R70), whichever row then wins. -/

namespace Sys2Proof.Laws.MatchesOwnRow

/-- The encoded word matches the row at the instruction's priority; `UNKNOWN` has no row in the list. -/
def Statement (i : Instr) : Prop :=
  (match RULES[i.prio - 1]? with
    | some row => row.hits (encode i)
    | none => i.prio == 113) = true

theorem rlcA : Statement (.rlcA) := rfl

theorem rlcB : Statement (.rlcB) := rfl

theorem rlcMX : Statement (.rlcMX) := rfl

theorem rlcMY : Statement (.rlcMY) := rfl

theorem incX : Statement (.incX) := rfl

theorem incY : Statement (.incY) := rfl

theorem scf : Statement (.scf) := rfl

theorem szf : Statement (.szf) := rfl

theorem sdf : Statement (.sdf) := rfl

theorem ei : Statement (.ei) := rfl

theorem di : Statement (.di) := rfl

theorem rdf : Statement (.rdf) := rfl

theorem rzf : Statement (.rzf) := rfl

theorem rcf : Statement (.rcf) := rfl

theorem pushXP : Statement (.pushXP) := rfl

theorem pushXH : Statement (.pushXH) := rfl

theorem pushXL : Statement (.pushXL) := rfl

theorem pushYP : Statement (.pushYP) := rfl

theorem pushYH : Statement (.pushYH) := rfl

theorem pushYL : Statement (.pushYL) := rfl

theorem pushF : Statement (.pushF) := rfl

theorem decSP : Statement (.decSP) := rfl

theorem popXP : Statement (.popXP) := rfl

theorem popXH : Statement (.popXH) := rfl

theorem popXL : Statement (.popXL) := rfl

theorem popYP : Statement (.popYP) := rfl

theorem popYH : Statement (.popYH) := rfl

theorem popYL : Statement (.popYL) := rfl

theorem popF : Statement (.popF) := rfl

theorem incSP : Statement (.incSP) := rfl

theorem rets : Statement (.rets) := rfl

theorem ret : Statement (.ret) := rfl

theorem jpba : Statement (.jpba) := rfl

theorem halt : Statement (.halt) := rfl

theorem slp : Statement (.slp) := rfl

theorem nop5 : Statement (.nop5) := rfl

theorem nop7 : Statement (.nop7) := rfl

theorem notR (r : Sel) : Statement (.notR r) := by
  cases r <;> rfl

theorem ldXPr (r : Sel) : Statement (.ldXPr r) := by
  cases r <;> rfl

theorem ldXHr (r : Sel) : Statement (.ldXHr r) := by
  cases r <;> rfl

theorem ldXLr (r : Sel) : Statement (.ldXLr r) := by
  cases r <;> rfl

theorem rrcR (r : Sel) : Statement (.rrcR r) := by
  cases r <;> rfl

theorem ldYPr (r : Sel) : Statement (.ldYPr r) := by
  cases r <;> rfl

theorem ldYHr (r : Sel) : Statement (.ldYHr r) := by
  cases r <;> rfl

theorem ldYLr (r : Sel) : Statement (.ldYLr r) := by
  cases r <;> rfl

theorem ldRXP (r : Sel) : Statement (.ldRXP r) := by
  cases r <;> rfl

theorem ldRXH (r : Sel) : Statement (.ldRXH r) := by
  cases r <;> rfl

theorem ldRXL (r : Sel) : Statement (.ldRXL r) := by
  cases r <;> rfl

theorem ldRYP (r : Sel) : Statement (.ldRYP r) := by
  cases r <;> rfl

theorem ldRYH (r : Sel) : Statement (.ldRYH r) := by
  cases r <;> rfl

theorem ldRYL (r : Sel) : Statement (.ldRYL r) := by
  cases r <;> rfl

theorem acpx (r : Sel) : Statement (.acpx r) := by
  cases r <;> rfl

theorem acpy (r : Sel) : Statement (.acpy r) := by
  cases r <;> rfl

theorem scpx (r : Sel) : Statement (.scpx r) := by
  cases r <;> rfl

theorem scpy (r : Sel) : Statement (.scpy r) := by
  cases r <;> rfl

theorem pushR (r : Sel) : Statement (.pushR r) := by
  cases r <;> rfl

theorem popR (r : Sel) : Statement (.popR r) := by
  cases r <;> rfl

theorem ldSPHr (r : Sel) : Statement (.ldSPHr r) := by
  cases r <;> rfl

theorem ldRSPH (r : Sel) : Statement (.ldRSPH r) := by
  cases r <;> rfl

theorem ldSPLr (r : Sel) : Statement (.ldSPLr r) := by
  cases r <;> rfl

theorem ldRSPL (r : Sel) : Statement (.ldRSPL r) := by
  cases r <;> rfl

theorem adcXH (imm : Nibble) : Statement (.adcXH imm) := by
  (revert imm; unfold Statement; decide)

theorem adcXL (imm : Nibble) : Statement (.adcXL imm) := by
  (revert imm; unfold Statement; decide)

theorem adcYH (imm : Nibble) : Statement (.adcYH imm) := by
  (revert imm; unfold Statement; decide)

theorem adcYL (imm : Nibble) : Statement (.adcYL imm) := by
  (revert imm; unfold Statement; decide)

theorem cpXH (imm : Nibble) : Statement (.cpXH imm) := by
  (revert imm; unfold Statement; decide)

theorem cpXL (imm : Nibble) : Statement (.cpXL imm) := by
  (revert imm; unfold Statement; decide)

theorem cpYH (imm : Nibble) : Statement (.cpYH imm) := by
  (revert imm; unfold Statement; decide)

theorem cpYL (imm : Nibble) : Statement (.cpYL imm) := by
  (revert imm; unfold Statement; decide)

theorem addRQ (r : Sel) (q : Sel) : Statement (.addRQ r q) := by
  cases r <;> cases q <;> rfl

theorem adcRQ (r : Sel) (q : Sel) : Statement (.adcRQ r q) := by
  cases r <;> cases q <;> rfl

theorem subRQ (r : Sel) (q : Sel) : Statement (.subRQ r q) := by
  cases r <;> cases q <;> rfl

theorem sbcRQ (r : Sel) (q : Sel) : Statement (.sbcRQ r q) := by
  cases r <;> cases q <;> rfl

theorem andRQ (r : Sel) (q : Sel) : Statement (.andRQ r q) := by
  cases r <;> cases q <;> rfl

theorem orRQ (r : Sel) (q : Sel) : Statement (.orRQ r q) := by
  cases r <;> cases q <;> rfl

theorem xorRQ (r : Sel) (q : Sel) : Statement (.xorRQ r q) := by
  cases r <;> cases q <;> rfl

theorem ldpxMX (imm : Nibble) : Statement (.ldpxMX imm) := by
  (revert imm; unfold Statement; decide)

theorem ldpyMY (imm : Nibble) : Statement (.ldpyMY imm) := by
  (revert imm; unfold Statement; decide)

theorem ldRQ (r : Sel) (q : Sel) : Statement (.ldRQ r q) := by
  cases r <;> cases q <;> rfl

theorem ldpxRQ (r : Sel) (q : Sel) : Statement (.ldpxRQ r q) := by
  cases r <;> cases q <;> rfl

theorem ldpyRQ (r : Sel) (q : Sel) : Statement (.ldpyRQ r q) := by
  cases r <;> cases q <;> rfl

theorem cpRQ (r : Sel) (q : Sel) : Statement (.cpRQ r q) := by
  cases r <;> cases q <;> rfl

theorem fanRQ (r : Sel) (q : Sel) : Statement (.fanRQ r q) := by
  cases r <;> cases q <;> rfl

theorem setF (imm : Nibble) : Statement (.setF imm) := by
  (revert imm; unfold Statement; decide)

theorem rstF (imm : Nibble) : Statement (.rstF imm) := by
  (revert imm; unfold Statement; decide)

theorem incMn (n : Nibble) : Statement (.incMn n) := by
  (revert n; unfold Statement; decide)

theorem decMn (n : Nibble) : Statement (.decMn n) := by
  (revert n; unfold Statement; decide)

theorem ldMnA (n : Nibble) : Statement (.ldMnA n) := by
  (revert n; unfold Statement; decide)

theorem ldMnB (n : Nibble) : Statement (.ldMnB n) := by
  (revert n; unfold Statement; decide)

theorem ldAMn (n : Nibble) : Statement (.ldAMn n) := by
  (revert n; unfold Statement; decide)

theorem ldBMn (n : Nibble) : Statement (.ldBMn n) := by
  (revert n; unfold Statement; decide)

theorem pset (p : BitVec 5) : Statement (.pset p) := by
  (revert p; unfold Statement; decide)

theorem addRI (r : Sel) (imm : Nibble) : Statement (.addRI r imm) := by
  cases r <;> (revert imm; unfold Statement; decide)

theorem adcRI (r : Sel) (imm : Nibble) : Statement (.adcRI r imm) := by
  cases r <;> (revert imm; unfold Statement; decide)

theorem andRI (r : Sel) (imm : Nibble) : Statement (.andRI r imm) := by
  cases r <;> (revert imm; unfold Statement; decide)

theorem orRI (r : Sel) (imm : Nibble) : Statement (.orRI r imm) := by
  cases r <;> (revert imm; unfold Statement; decide)

theorem xorRI (r : Sel) (imm : Nibble) : Statement (.xorRI r imm) := by
  cases r <;> (revert imm; unfold Statement; decide)

theorem sbcRI (r : Sel) (imm : Nibble) : Statement (.sbcRI r imm) := by
  cases r <;> (revert imm; unfold Statement; decide)

theorem fanRI (r : Sel) (imm : Nibble) : Statement (.fanRI r imm) := by
  cases r <;> (revert imm; unfold Statement; decide)

theorem cpRI (r : Sel) (imm : Nibble) : Statement (.cpRI r imm) := by
  cases r <;> (revert imm; unfold Statement; decide)

theorem ldRI (r : Sel) (imm : Nibble) : Statement (.ldRI r imm) := by
  cases r <;> (revert imm; unfold Statement; decide)

theorem jp (step : Byte) : Statement (.jp step) := by
  (revert step; unfold Statement; decide)

theorem retd (l : Byte) : Statement (.retd l) := by
  (revert l; unfold Statement; decide)

theorem jpC (step : Byte) : Statement (.jpC step) := by
  (revert step; unfold Statement; decide)

theorem jpNC (step : Byte) : Statement (.jpNC step) := by
  (revert step; unfold Statement; decide)

theorem call (step : Byte) : Statement (.call step) := by
  (revert step; unfold Statement; decide)

theorem calz (step : Byte) : Statement (.calz step) := by
  (revert step; unfold Statement; decide)

theorem jpZ (step : Byte) : Statement (.jpZ step) := by
  (revert step; unfold Statement; decide)

theorem jpNZ (step : Byte) : Statement (.jpNZ step) := by
  (revert step; unfold Statement; decide)

theorem ldY (y : Byte) : Statement (.ldY y) := by
  (revert y; unfold Statement; decide)

theorem lbpx (l : Byte) : Statement (.lbpx l) := by
  (revert l; unfold Statement; decide)

theorem ldX (x : Byte) : Statement (.ldX x) := by
  (revert x; unfold Statement; decide)

theorem unknown (w : Word12) : Statement (.unknown w) := rfl

end Sys2Proof.Laws.MatchesOwnRow
end

