-- ==== Sys2Proof/Machine/Flags.lean ====
section
/-! DEFINITION. Flags. The block holds no flag and computes none (10_state.md rule R21; "Flags: none" in every
instruction rule); what the spec gives is the condition name a conditional `JP` word stands for. -/

namespace Sys2Proof.Machine

/-- The condition named by the upper nibble of a word: 2, 3, 6 and 7 are the conditional jumps (rule R21). -/
def conditionOf (w : Word12) : Option CondName :=
  match (upper w).toNat with
  | 2 => some .C
  | 3 => some .NC
  | 6 => some .Z
  | 7 => some .NZ
  | _ => none

end Sys2Proof.Machine
end

