-- ==== Sys2Proof/Tests/Slice0.lean ====
section
/-! SUPPORT. Small checks of the model against the spec: words written out bit by bit from the column `encoding` of
30_encoding.md rule R70, vectors of 95_test_vectors.md, ill-formed terms, and for each obligation with hypotheses a
concrete case that meets them. -/

namespace Sys2Proof.Tests

open Sys2Proof.Machine Sys2Proof.Safety

/-! ### Helpers -/

/-- A call that presents bytes, address and page record to the machine right after reset. -/
def call (bytes : List Byte) (address : WordAddr) (pageRec : PageValue) : State :=
  { State.reset with bytes := bytes, address := address, pageRec := pageRec }

/-- The result a step answers with. -/
def resultOf (s : State) : Option DecodedInstruction :=
  match step s with
  | .next t => t.result
  | _ => none

/-- The same call on a finished index with the records given. -/
def finished (index : List PageRecord) (bytes : List Byte) (address : WordAddr) : State :=
  { State.reset with bytes := bytes, address := address, index := index, phase := .finished }

/-- The index of 95_test_vectors.md V8. -/
def indexV8 : List PageRecord := [⟨0x0010, 0x01⟩, ⟨0x0200, 0x12⟩, ⟨0x1000, 0x1F⟩]

/-! ### One word per instruction, bit by bit from its encoding -/

theorem test_words_page_set_and_jump : ∀ p ∈ ([
   (0b1110_0101_0011, .pset 0x13), (0b0000_1001_0101, .jp 0x95), (0b0010_1000_1110, .jpC 0x8E),
   (0b0011_1000_0111, .jpNC 0x87), (0b0110_1000_0000, .jpZ 0x80), (0b0111_0111_1001, .jpNZ 0x79)] : List (Word12 × Instr)),
    decodeWord p.1 = p.2 := by decide

theorem test_words_indirect_call_and_return : ∀ p ∈ ([
   (0b1111_1110_1000, .jpba), (0b0100_1001_0101, .call 0x95), (0b0101_1000_1110, .calz 0x8E),
   (0b1111_1101_1111, .ret), (0b1111_1101_1110, .rets), (0b0001_0111_1001, .retd 0x79)] : List (Word12 × Instr)),
    decodeWord p.1 = p.2 := by decide

theorem test_words_system : ∀ p ∈ ([
   (0b1111_1111_1011, .nop5), (0b1111_1111_1111, .nop7), (0b1111_1111_1000, .halt), (0b1111_1111_1001, .slp)] : List (Word12 × Instr)),
    decodeWord p.1 = p.2 := by decide

theorem test_words_index_literal : ∀ p ∈ ([
   (0b1110_1110_0000, .incX), (0b1110_1111_0000, .incY), (0b1011_1000_1110, .ldX 0x8E),
   (0b1000_1000_0111, .ldY 0x87), (0b1010_0000_1001, .adcXH 0x9), (0b1010_0001_0101, .adcXL 0x5),
   (0b1010_0010_0110, .adcYH 0x6), (0b1010_0011_0111, .adcYL 0x7), (0b1010_0100_1000, .cpXH 0x8),
   (0b1010_0101_1001, .cpXL 0x9), (0b1010_0110_0101, .cpYH 0x5), (0b1010_0111_0110, .cpYL 0x6)] : List (Word12 × Instr)),
    decodeWord p.1 = p.2 := by decide

theorem test_words_index_nibble_transfer : ∀ p ∈ ([
   (0b1110_1000_0010, .ldXPr .mx), (0b1110_1000_0101, .ldXHr .b), (0b1110_1000_1011, .ldXLr .my),
   (0b1110_1001_0000, .ldYPr .a), (0b1110_1001_0110, .ldYHr .mx), (0b1110_1001_1001, .ldYLr .b),
   (0b1110_1010_0011, .ldRXP .my), (0b1110_1010_0100, .ldRXH .a), (0b1110_1010_1010, .ldRXL .mx),
   (0b1110_1011_0001, .ldRYP .b), (0b1110_1011_0111, .ldRYH .my), (0b1110_1011_1000, .ldRYL .a)] : List (Word12 × Instr)),
    decodeWord p.1 = p.2 := by decide

theorem test_words_data_transfer : ∀ p ∈ ([
   (0b1110_0010_0101, .ldRI .mx 0x5), (0b1110_1100_0111, .ldRQ .b .my), (0b1111_1010_0111, .ldAMn 0x7),
   (0b1111_1011_1000, .ldBMn 0x8), (0b1111_1000_1001, .ldMnA 0x9), (0b1111_1001_0101, .ldMnB 0x5),
   (0b1110_0110_0110, .ldpxMX 0x6), (0b1110_1110_0010, .ldpxRQ .a .mx), (0b1110_0111_1000, .ldpyMY 0x8),
   (0b1110_1111_0111, .ldpyRQ .b .my), (0b1001_1001_0110, .lbpx 0x96)] : List (Word12 × Instr)),
    decodeWord p.1 = p.2 := by decide

theorem test_words_flag : ∀ p ∈ ([
   (0b1111_0100_0110, .setF 0x6), (0b1111_0101_0110, .rstF 0x6), (0b1111_0100_0001, .scf), (0b1111_0101_1110, .rcf),
   (0b1111_0100_0010, .szf), (0b1111_0101_1101, .rzf), (0b1111_0100_0100, .sdf), (0b1111_0101_1011, .rdf),
   (0b1111_0100_1000, .ei), (0b1111_0101_0111, .di)] : List (Word12 × Instr)),
    decodeWord p.1 = p.2 := by decide

theorem test_words_stack_pointer_and_selector : ∀ p ∈ ([
   (0b1111_1101_1011, .incSP), (0b1111_1100_1011, .decSP), (0b1111_1100_0011, .pushR .my),
   (0b1111_1101_0000, .popR .a), (0b1111_1110_0010, .ldSPHr .mx), (0b1111_1111_0001, .ldSPLr .b),
   (0b1111_1110_0111, .ldRSPH .my), (0b1111_1111_0100, .ldRSPL .a)] : List (Word12 × Instr)),
    decodeWord p.1 = p.2 := by decide

theorem test_words_push_named_register : ∀ p ∈ ([
   (0b1111_1100_0100, .pushXP), (0b1111_1100_0101, .pushXH), (0b1111_1100_0110, .pushXL),
   (0b1111_1100_0111, .pushYP), (0b1111_1100_1000, .pushYH), (0b1111_1100_1001, .pushYL), (0b1111_1100_1010, .pushF)] : List (Word12 × Instr)),
    decodeWord p.1 = p.2 := by decide

theorem test_words_pop_named_register : ∀ p ∈ ([
   (0b1111_1101_0100, .popXP), (0b1111_1101_0101, .popXH), (0b1111_1101_0110, .popXL), (0b1111_1101_0111, .popYP),
   (0b1111_1101_1000, .popYH), (0b1111_1101_1001, .popYL), (0b1111_1101_1010, .popF)] : List (Word12 × Instr)),
    decodeWord p.1 = p.2 := by decide

theorem test_words_arithmetic_literal : ∀ p ∈ ([
   (0b1100_0010_0101, .addRI .mx 0x5), (0b1100_0101_0110, .adcRI .b 0x6), (0b1101_0111_0111, .sbcRI .my 0x7),
   (0b1100_1000_1000, .andRI .a 0x8), (0b1100_1110_1001, .orRI .mx 0x9), (0b1101_0001_0101, .xorRI .b 0x5),
   (0b1101_1111_0110, .cpRI .my 0x6), (0b1101_1000_0111, .fanRI .a 0x7), (0b1101_0010_1111, .notR .mx)] : List (Word12 × Instr)),
    decodeWord p.1 = p.2 := by decide

theorem test_words_arithmetic_register : ∀ p ∈ ([
   (0b1010_1000_1001, .addRQ .mx .b), (0b1010_1001_0111, .adcRQ .b .my), (0b1010_1010_1100, .subRQ .my .a),
   (0b1010_1011_0010, .sbcRQ .a .mx), (0b1010_1100_1001, .andRQ .mx .b), (0b1010_1101_0111, .orRQ .b .my),
   (0b1010_1110_1100, .xorRQ .my .a), (0b1111_0000_0010, .cpRQ .a .mx), (0b1111_0001_1001, .fanRQ .mx .b)] : List (Word12 × Instr)),
    decodeWord p.1 = p.2 := by decide

theorem test_words_rotate_count_and_memory_carry : ∀ p ∈ ([
   (0b1010_1111_0000, .rlcA), (0b1010_1111_0101, .rlcB), (0b1010_1111_1010, .rlcMX), (0b1010_1111_1111, .rlcMY),
   (0b1110_1000_1110, .rrcR .mx), (0b1111_0110_0101, .incMn 0x5), (0b1111_0111_0110, .decMn 0x6),
   (0b1111_0010_1000, .acpx .a), (0b1111_0010_1110, .acpy .mx), (0b1111_0011_1001, .scpx .b),
   (0b1111_0011_1111, .scpy .my)] : List (Word12 × Instr)),
    decodeWord p.1 = p.2 := by decide

/-- The ends of three unmatched ranges (rule R81). -/
theorem test_words_unknown : ∀ w ∈ ([0b1010_1111_0001, 0b1110_1101_0000, 0b1111_1111_1110] : List Word12),
    decodeWord w = .unknown w := by decide

/-! ### Results, from 95_test_vectors.md: bytes, address, page record, expected result -/

/-- V2, T8, V1, B8, B10, B15, B11, B16, T10, B12, B13, B14. -/
theorem test_results_page_set_and_jump : ∀ v ∈ ([
   ([0x0E, 0x41], 0x1234, 0x15, ⟨.PSET, some (.immediate 0x01), none, [], none⟩),
   ([0xAA, 0x0E, 0x41], 0x1234, 0x15, ⟨.PSET, some (.immediate 0x01), none, [], none⟩),
   ([0x10, 0x23], 0x0100, 0x01, ⟨.JP, some (.address 0x23), none, [⟨.unconditional, some 0x0123⟩], none⟩),
   ([0x00, 0xFF], 0x1234, 0x1F, ⟨.JP, some (.address 0xFF), none, [⟨.unconditional, some 0x1FFF⟩], none⟩),
   ([0x02, 0x10], 0x01FF, 0x1F, ⟨.JP, some (.conditionName .C), some (.address 0x10), [⟨.trueBranch, some 0x1F10⟩, ⟨.falseBranch, some 0x0200⟩], none⟩),
   ([0x02, 0x00], 0x1FFF, 0x00, ⟨.JP, some (.conditionName .C), some (.address 0x00), [⟨.trueBranch, some 0x0000⟩, ⟨.falseBranch, some 0x2000⟩], none⟩),
   ([0x03, 0x00], 0x0000, 0x01, ⟨.JP, some (.conditionName .NC), some (.address 0x00), [⟨.trueBranch, some 0x0100⟩, ⟨.falseBranch, some 0x0001⟩], none⟩),
   ([0x03, 0x00], 0xFFFFFFFF, 0x01, ⟨.JP, some (.conditionName .NC), some (.address 0x00), [⟨.trueBranch, some 0x0100⟩, ⟨.falseBranch, some 0x0000⟩], none⟩),
   ([0x12, 0x34, 0x56, 0x78], 0x0010, 0x01, ⟨.JP, some (.conditionName .Z), some (.address 0x78), [⟨.trueBranch, some 0x0178⟩, ⟨.falseBranch, some 0x0011⟩], none⟩),
   ([0x06, 0xFF], 0x0ABC, 0x0A, ⟨.JP, some (.conditionName .Z), some (.address 0xFF), [⟨.trueBranch, some 0x0AFF⟩, ⟨.falseBranch, some 0x0ABD⟩], none⟩),
   ([0x07, 0x05], 0x0105, 0x01, ⟨.JP, some (.conditionName .NZ), some (.address 0x05), [⟨.trueBranch, some 0x0105⟩, ⟨.falseBranch, some 0x0106⟩], none⟩),
   ([0x07, 0x06], 0x0105, 0x01, ⟨.JP, some (.conditionName .NZ), some (.address 0x06), [⟨.trueBranch, some 0x0106⟩, ⟨.falseBranch, some 0x0106⟩], none⟩)] : List (List Byte × WordAddr × PageValue × DecodedInstruction)),
    resultOf (call v.1 v.2.1 v.2.2.1) = some v.2.2.2 := by decide

/-- B29, B18, B20, B21, B22, T9, B24, B25, B26, B27. -/
theorem test_results_indirect_call_and_return : ∀ v ∈ ([
   ([0x0F, 0xE8], 0x1234, 0x15, ⟨.JPBA, none, none, [⟨.indirect, none⟩], none⟩),
   ([0x04, 0x80], 0x1234, 0x1F, ⟨.CALL, some (.address 0x80), none, [⟨.callDestination, some 0x1280⟩], none⟩),
   ([0x04, 0xFF], 0x00012345, 0x01, ⟨.CALL, some (.address 0xFF), none, [⟨.callDestination, some 0x03FF⟩], none⟩),
   ([0x05, 0x80], 0x1ABC, 0x0F, ⟨.CALZ, some (.address 0x80), none, [⟨.callDestination, some 0x1080⟩], none⟩),
   ([0x05, 0x80], 0x0ABC, 0x0F, ⟨.CALZ, some (.address 0x80), none, [⟨.callDestination, some 0x0080⟩], none⟩),
   ([0x0F, 0xFF, 0x0F, 0xDF], 0x1234, 0x15, ⟨.RET, none, none, [⟨.functionReturn, none⟩], none⟩),
   ([0x0F, 0xDF], 0x1234, 0x15, ⟨.RET, none, none, [⟨.functionReturn, none⟩], none⟩),
   ([0x0F, 0xDE], 0x1234, 0x15, ⟨.RETS, none, none, [⟨.functionReturn, none⟩], some .skipOnReturn⟩),
   ([0x01, 0x7F], 0x1234, 0x15, ⟨.RETD, some (.immediate 0x7F), none, [⟨.functionReturn, none⟩], none⟩),
   ([0x01, 0x00], 0x1234, 0x15, ⟨.RETD, some (.immediate 0x00), none, [⟨.functionReturn, none⟩], none⟩)] : List (List Byte × WordAddr × PageValue × DecodedInstruction)),
    resultOf (call v.1 v.2.1 v.2.2.1) = some v.2.2.2 := by decide

/-- S1, T4, S2, S3, S4. -/
theorem test_results_system : ∀ v ∈ ([
   ([0x0F, 0xFB], 0x1234, 0x15, ⟨.NOP5, none, none, [], none⟩),
   ([0xFF, 0xFF], 0x1234, 0x15, ⟨.NOP7, none, none, [], none⟩),
   ([0x0F, 0xFF], 0x1234, 0x15, ⟨.NOP7, none, none, [], none⟩),
   ([0x0F, 0xF8], 0x1234, 0x15, ⟨.HALT, none, none, [], none⟩),
   ([0x0F, 0xF9], 0x1234, 0x15, ⟨.SLP, none, none, [], none⟩)] : List (List Byte × WordAddr × PageValue × DecodedInstruction)),
    resultOf (call v.1 v.2.1 v.2.2.1) = some v.2.2.2 := by decide

/-- X1, X2, X3, X4, X5, X22, X23, X24, X25, X26, X27, X28, X29. -/
theorem test_results_index_literal : ∀ v ∈ ([
   ([0x0E, 0xE0], 0x1234, 0x15, ⟨.INC, some (.register .X), none, [], none⟩),
   ([0x0E, 0xF0], 0x1234, 0x15, ⟨.INC, some (.register .Y), none, [], none⟩),
   ([0x0B, 0x00], 0x1234, 0x15, ⟨.LD, some (.register .X), some (.immediate 0x00), [], none⟩),
   ([0x0B, 0xFF], 0x1234, 0x15, ⟨.LD, some (.register .X), some (.immediate 0xFF), [], none⟩),
   ([0x08, 0x5A], 0x1234, 0x15, ⟨.LD, some (.register .Y), some (.immediate 0x5A), [], none⟩),
   ([0x0A, 0x0F], 0x1234, 0x15, ⟨.ADC, some (.register .XH), some (.immediate 0x0F), [], none⟩),
   ([0x0A, 0x10], 0x1234, 0x15, ⟨.ADC, some (.register .XL), some (.immediate 0x00), [], none⟩),
   ([0x0A, 0x27], 0x1234, 0x15, ⟨.ADC, some (.register .YH), some (.immediate 0x07), [], none⟩),
   ([0x0A, 0x38], 0x1234, 0x15, ⟨.ADC, some (.register .YL), some (.immediate 0x08), [], none⟩),
   ([0x0A, 0x45], 0x1234, 0x15, ⟨.CP, some (.register .XH), some (.immediate 0x05), [], none⟩),
   ([0x0A, 0x55], 0x1234, 0x15, ⟨.CP, some (.register .XL), some (.immediate 0x05), [], none⟩),
   ([0x0A, 0x65], 0x1234, 0x15, ⟨.CP, some (.register .YH), some (.immediate 0x05), [], none⟩),
   ([0x0A, 0x75], 0x1234, 0x15, ⟨.CP, some (.register .YL), some (.immediate 0x05), [], none⟩)] : List (List Byte × WordAddr × PageValue × DecodedInstruction)),
    resultOf (call v.1 v.2.1 v.2.2.1) = some v.2.2.2 := by decide

/-- X6, X7, X8, X10, X11, X12, X14, X15, X16, X17, X18, X19. -/
theorem test_results_index_nibble_transfer : ∀ v ∈ ([
   ([0x0E, 0x80], 0x1234, 0x15, ⟨.LD, some (.register .XP), some (.register .A), [], none⟩),
   ([0x0E, 0x87], 0x1234, 0x15, ⟨.LD, some (.register .XH), some (.registerIndirect .Y), [], none⟩),
   ([0x0E, 0x8A], 0x1234, 0x15, ⟨.LD, some (.register .XL), some (.registerIndirect .X), [], none⟩),
   ([0x0E, 0x91], 0x1234, 0x15, ⟨.LD, some (.register .YP), some (.register .B), [], none⟩),
   ([0x0E, 0x96], 0x1234, 0x15, ⟨.LD, some (.register .YH), some (.registerIndirect .X), [], none⟩),
   ([0x0E, 0x9B], 0x1234, 0x15, ⟨.LD, some (.register .YL), some (.registerIndirect .Y), [], none⟩),
   ([0x0E, 0xA3], 0x1234, 0x15, ⟨.LD, some (.registerIndirect .Y), some (.register .XP), [], none⟩),
   ([0x0E, 0xA4], 0x1234, 0x15, ⟨.LD, some (.register .A), some (.register .XH), [], none⟩),
   ([0x0E, 0xA9], 0x1234, 0x15, ⟨.LD, some (.register .B), some (.register .XL), [], none⟩),
   ([0x0E, 0xB2], 0x1234, 0x15, ⟨.LD, some (.registerIndirect .X), some (.register .YP), [], none⟩),
   ([0x0E, 0xB5], 0x1234, 0x15, ⟨.LD, some (.register .B), some (.register .YH), [], none⟩),
   ([0x0E, 0xB8], 0x1234, 0x15, ⟨.LD, some (.register .A), some (.register .YL), [], none⟩)] : List (List Byte × WordAddr × PageValue × DecodedInstruction)),
    resultOf (call v.1 v.2.1 v.2.2.1) = some v.2.2.2 := by decide

/-- B6, D1, D5, D6, D10, D11, D12, D13, D14, B5, D15, D16, D17, D18, D19, D20, D21. -/
theorem test_results_data_transfer : ∀ v ∈ ([
   ([0x0E, 0x3F], 0x1234, 0x15, ⟨.LD, some (.registerIndirect .Y), some (.immediate 0x0F), [], none⟩),
   ([0x0E, 0x05], 0x1234, 0x15, ⟨.LD, some (.register .A), some (.immediate 0x05), [], none⟩),
   ([0x0E, 0xC0], 0x1234, 0x15, ⟨.LD, some (.register .A), some (.register .A), [], none⟩),
   ([0x0E, 0xC1], 0x1234, 0x15, ⟨.LD, some (.register .A), some (.register .B), [], none⟩),
   ([0x0F, 0xA0], 0x1234, 0x15, ⟨.LD, some (.register .A), some (.register (.M 0x0)), [], none⟩),
   ([0x0F, 0xAF], 0x1234, 0x15, ⟨.LD, some (.register .A), some (.register (.M 0xF)), [], none⟩),
   ([0x0F, 0xB7], 0x1234, 0x15, ⟨.LD, some (.register .B), some (.register (.M 0x7)), [], none⟩),
   ([0x0F, 0x80], 0x1234, 0x15, ⟨.LD, some (.register (.M 0x0)), some (.register .A), [], none⟩),
   ([0x0F, 0x9C], 0x1234, 0x15, ⟨.LD, some (.register (.M 0xC)), some (.register .B), [], none⟩),
   ([0x0E, 0x60], 0x1234, 0x15, ⟨.LDPX, some (.registerIndirect .X), some (.immediate 0x00), [], none⟩),
   ([0x0E, 0x6F], 0x1234, 0x15, ⟨.LDPX, some (.registerIndirect .X), some (.immediate 0x0F), [], none⟩),
   ([0x0E, 0xE1], 0x1234, 0x15, ⟨.LDPX, some (.register .A), some (.register .B), [], none⟩),
   ([0x0E, 0xEF], 0x1234, 0x15, ⟨.LDPX, some (.registerIndirect .Y), some (.registerIndirect .Y), [], none⟩),
   ([0x0E, 0x70], 0x1234, 0x15, ⟨.LDPY, some (.registerIndirect .Y), some (.immediate 0x00), [], none⟩),
   ([0x0E, 0xF4], 0x1234, 0x15, ⟨.LDPY, some (.register .B), some (.register .A), [], none⟩),
   ([0x09, 0x00], 0x1234, 0x15, ⟨.LBPX, some (.registerIndirect .X), some (.immediate 0x00), [], none⟩),
   ([0x09, 0xA5], 0x1234, 0x15, ⟨.LBPX, some (.registerIndirect .X), some (.immediate 0xA5), [], none⟩)] : List (List Byte × WordAddr × PageValue × DecodedInstruction)),
    resultOf (call v.1 v.2.1 v.2.2.1) = some v.2.2.2 := by decide

/-- G1, G4, G8, G11, G2, G13, G3, G12, G5, G10, G6, G9. -/
theorem test_results_flag : ∀ v ∈ ([
   ([0x0F, 0x40], 0x1234, 0x15, ⟨.SET, some (.register .F), some (.immediate 0x00), [], none⟩),
   ([0x0F, 0x43], 0x1234, 0x15, ⟨.SET, some (.register .F), some (.immediate 0x03), [], none⟩),
   ([0x0F, 0x50], 0x1234, 0x15, ⟨.RST, some (.register .F), some (.immediate 0x00), [], none⟩),
   ([0x0F, 0x5C], 0x1234, 0x15, ⟨.RST, some (.register .F), some (.immediate 0x0C), [], none⟩),
   ([0x0F, 0x41], 0x1234, 0x15, ⟨.SCF, none, none, [], none⟩),
   ([0x0F, 0x5E], 0x1234, 0x15, ⟨.RCF, none, none, [], none⟩),
   ([0x0F, 0x42], 0x1234, 0x15, ⟨.SZF, none, none, [], none⟩),
   ([0x0F, 0x5D], 0x1234, 0x15, ⟨.RZF, none, none, [], none⟩),
   ([0x0F, 0x44], 0x1234, 0x15, ⟨.SDF, none, none, [], none⟩),
   ([0x0F, 0x5B], 0x1234, 0x15, ⟨.RDF, none, none, [], none⟩),
   ([0x0F, 0x48], 0x1234, 0x15, ⟨.EI, none, none, [], none⟩),
   ([0x0F, 0x57], 0x1234, 0x15, ⟨.DI, none, none, [], none⟩)] : List (List Byte × WordAddr × PageValue × DecodedInstruction)),
    resultOf (call v.1 v.2.1 v.2.2.1) = some v.2.2.2 := by decide

/-- K1, K2, K3, K4, K13, K14, K24, K25, K28, K26, K29. -/
theorem test_results_stack_pointer_and_selector : ∀ v ∈ ([
   ([0x0F, 0xDB], 0x1234, 0x15, ⟨.INC, some (.register .SP), none, [], none⟩),
   ([0x0F, 0xCB], 0x1234, 0x15, ⟨.DEC, some (.register .SP), none, [], none⟩),
   ([0x0F, 0xC0], 0x1234, 0x15, ⟨.PUSH, some (.register .A), none, [], none⟩),
   ([0x0F, 0xC3], 0x1234, 0x15, ⟨.PUSH, some (.registerIndirect .Y), none, [], none⟩),
   ([0x0F, 0xD1], 0x1234, 0x15, ⟨.POP, some (.register .B), none, [], none⟩),
   ([0x0F, 0xD2], 0x1234, 0x15, ⟨.POP, some (.registerIndirect .X), none, [], none⟩),
   ([0x0F, 0xE0], 0x1234, 0x15, ⟨.LD, some (.register .SPH), some (.register .A), [], none⟩),
   ([0x0F, 0xE3], 0x1234, 0x15, ⟨.LD, some (.register .SPH), some (.registerIndirect .Y), [], none⟩),
   ([0x0F, 0xF1], 0x1234, 0x15, ⟨.LD, some (.register .SPL), some (.register .B), [], none⟩),
   ([0x0F, 0xE5], 0x1234, 0x15, ⟨.LD, some (.register .B), some (.register .SPH), [], none⟩),
   ([0x0F, 0xF6], 0x1234, 0x15, ⟨.LD, some (.registerIndirect .X), some (.register .SPL), [], none⟩)] : List (List Byte × WordAddr × PageValue × DecodedInstruction)),
    resultOf (call v.1 v.2.1 v.2.2.1) = some v.2.2.2 := by decide

/-- K5, K6, K7, K8, K9, K10, K11. -/
theorem test_results_push_named_register : ∀ v ∈ ([
   ([0x0F, 0xC4], 0x1234, 0x15, ⟨.PUSH, some (.register .XP), none, [], none⟩),
   ([0x0F, 0xC5], 0x1234, 0x15, ⟨.PUSH, some (.register .XH), none, [], none⟩),
   ([0x0F, 0xC6], 0x1234, 0x15, ⟨.PUSH, some (.register .XL), none, [], none⟩),
   ([0x0F, 0xC7], 0x1234, 0x15, ⟨.PUSH, some (.register .YP), none, [], none⟩),
   ([0x0F, 0xC8], 0x1234, 0x15, ⟨.PUSH, some (.register .YH), none, [], none⟩),
   ([0x0F, 0xC9], 0x1234, 0x15, ⟨.PUSH, some (.register .YL), none, [], none⟩),
   ([0x0F, 0xCA], 0x1234, 0x15, ⟨.PUSH, some (.register .F), none, [], none⟩)] : List (List Byte × WordAddr × PageValue × DecodedInstruction)),
    resultOf (call v.1 v.2.1 v.2.2.1) = some v.2.2.2 := by decide

/-- K15, K16, K17, K18, K19, K20, K21. -/
theorem test_results_pop_named_register : ∀ v ∈ ([
   ([0x0F, 0xD4], 0x1234, 0x15, ⟨.POP, some (.register .XP), none, [], none⟩),
   ([0x0F, 0xD5], 0x1234, 0x15, ⟨.POP, some (.register .XH), none, [], none⟩),
   ([0x0F, 0xD6], 0x1234, 0x15, ⟨.POP, some (.register .XL), none, [], none⟩),
   ([0x0F, 0xD7], 0x1234, 0x15, ⟨.POP, some (.register .YP), none, [], none⟩),
   ([0x0F, 0xD8], 0x1234, 0x15, ⟨.POP, some (.register .YH), none, [], none⟩),
   ([0x0F, 0xD9], 0x1234, 0x15, ⟨.POP, some (.register .YL), none, [], none⟩),
   ([0x0F, 0xDA], 0x1234, 0x15, ⟨.POP, some (.register .F), none, [], none⟩)] : List (List Byte × WordAddr × PageValue × DecodedInstruction)),
    resultOf (call v.1 v.2.1 v.2.2.1) = some v.2.2.2 := by decide

/-- A1, A2, A5, A8, A10, A12, A14, A19, A21, A22, A25, A15, A16. -/
theorem test_results_arithmetic_literal : ∀ v ∈ ([
   ([0x0C, 0x00], 0x1234, 0x15, ⟨.ADD, some (.register .A), some (.immediate 0x00), [], none⟩),
   ([0x0C, 0x3F], 0x1234, 0x15, ⟨.ADD, some (.registerIndirect .Y), some (.immediate 0x0F), [], none⟩),
   ([0x0C, 0x55], 0x1234, 0x15, ⟨.ADC, some (.register .B), some (.immediate 0x05), [], none⟩),
   ([0x0D, 0x49], 0x1234, 0x15, ⟨.SBC, some (.register .A), some (.immediate 0x09), [], none⟩),
   ([0x0C, 0x8C], 0x1234, 0x15, ⟨.AND, some (.register .A), some (.immediate 0x0C), [], none⟩),
   ([0x0C, 0xE1], 0x1234, 0x15, ⟨.OR, some (.registerIndirect .X), some (.immediate 0x01), [], none⟩),
   ([0x0D, 0x0E], 0x1234, 0x15, ⟨.XOR, some (.register .A), some (.immediate 0x0E), [], none⟩),
   ([0x0D, 0x30], 0x1234, 0x15, ⟨.XOR, some (.registerIndirect .Y), some (.immediate 0x00), [], none⟩),
   ([0x0D, 0xDE], 0x1234, 0x15, ⟨.CP, some (.register .B), some (.immediate 0x0E), [], none⟩),
   ([0xFD, 0xDE], 0x1234, 0x15, ⟨.CP, some (.register .B), some (.immediate 0x0E), [], none⟩),
   ([0x0D, 0x81], 0x1234, 0x15, ⟨.FAN, some (.register .A), some (.immediate 0x01), [], none⟩),
   ([0x0D, 0x0F], 0x1234, 0x15, ⟨.NOT, some (.register .A), none, [], none⟩),
   ([0x0D, 0x1F], 0x1234, 0x15, ⟨.NOT, some (.register .B), none, [], none⟩)] : List (List Byte × WordAddr × PageValue × DecodedInstruction)),
    resultOf (call v.1 v.2.1 v.2.2.1) = some v.2.2.2 := by decide

/-- A3, A4, A6, A7, T1, T2, A11, A13, A20, A23, A24, A26. -/
theorem test_results_arithmetic_register : ∀ v ∈ ([
   ([0x0A, 0x80], 0x1234, 0x15, ⟨.ADD, some (.register .A), some (.register .A), [], none⟩),
   ([0x0A, 0x8B], 0x1234, 0x15, ⟨.ADD, some (.registerIndirect .X), some (.registerIndirect .Y), [], none⟩),
   ([0x0A, 0x94], 0x1234, 0x15, ⟨.ADC, some (.register .B), some (.register .A), [], none⟩),
   ([0x0A, 0xA1], 0x1234, 0x15, ⟨.SUB, some (.register .A), some (.register .B), [], none⟩),
   ([0x0A, 0xBC], 0x1234, 0x15, ⟨.SBC, some (.registerIndirect .Y), some (.register .A), [], none⟩),
   ([0xFA, 0xBC], 0x1234, 0x15, ⟨.SBC, some (.registerIndirect .Y), some (.register .A), [], none⟩),
   ([0x0A, 0xC5], 0x1234, 0x15, ⟨.AND, some (.register .B), some (.register .B), [], none⟩),
   ([0x0A, 0xD2], 0x1234, 0x15, ⟨.OR, some (.register .A), some (.registerIndirect .X), [], none⟩),
   ([0x0A, 0xE7], 0x1234, 0x15, ⟨.XOR, some (.register .B), some (.registerIndirect .Y), [], none⟩),
   ([0x0F, 0x00], 0x1234, 0x15, ⟨.CP, some (.register .A), some (.register .A), [], none⟩),
   ([0x0F, 0x09], 0x1234, 0x15, ⟨.CP, some (.registerIndirect .X), some (.register .B), [], none⟩),
   ([0x0F, 0x1C], 0x1234, 0x15, ⟨.FAN, some (.registerIndirect .Y), some (.register .A), [], none⟩)] : List (List Byte × WordAddr × PageValue × DecodedInstruction)),
    resultOf (call v.1 v.2.1 v.2.2.1) = some v.2.2.2 := by decide

/-- A27, A28, A29, A30, X9, A34, A36, A37, A38, A39, A40, A41, A42. -/
theorem test_results_rotate_count_and_memory_carry : ∀ v ∈ ([
   ([0x0A, 0xF0], 0x1234, 0x15, ⟨.RLC, some (.register .A), none, [], none⟩),
   ([0x0A, 0xF5], 0x1234, 0x15, ⟨.RLC, some (.register .B), none, [], none⟩),
   ([0x0A, 0xFA], 0x1234, 0x15, ⟨.RLC, some (.registerIndirect .X), none, [], none⟩),
   ([0x0A, 0xFF], 0x1234, 0x15, ⟨.RLC, some (.registerIndirect .Y), none, [], none⟩),
   ([0x0E, 0x8C], 0x1234, 0x15, ⟨.RRC, some (.register .A), none, [], none⟩),
   ([0x0E, 0x8D], 0x1234, 0x15, ⟨.RRC, some (.register .B), none, [], none⟩),
   ([0x0F, 0x60], 0x1234, 0x15, ⟨.INC, some (.register (.M 0x0)), none, [], none⟩),
   ([0x0F, 0x6F], 0x1234, 0x15, ⟨.INC, some (.register (.M 0xF)), none, [], none⟩),
   ([0x0F, 0x75], 0x1234, 0x15, ⟨.DEC, some (.register (.M 0x5)), none, [], none⟩),
   ([0x0F, 0x28], 0x1234, 0x15, ⟨.ACPX, some (.registerIndirect .X), some (.register .A), [], none⟩),
   ([0x0F, 0x2F], 0x1234, 0x15, ⟨.ACPY, some (.registerIndirect .Y), some (.registerIndirect .Y), [], none⟩),
   ([0x0F, 0x39], 0x1234, 0x15, ⟨.SCPX, some (.registerIndirect .X), some (.register .B), [], none⟩),
   ([0x0F, 0x3E], 0x1234, 0x15, ⟨.SCPY, some (.registerIndirect .Y), some (.registerIndirect .X), [], none⟩)] : List (List Byte × WordAddr × PageValue × DecodedInstruction)),
    resultOf (call v.1 v.2.1 v.2.2.1) = some v.2.2.2 := by decide

/-! ### Ill-formed terms are refused (30_encoding.md rules R71, R81) -/

theorem test_wf_set_f_aliases : ∀ i ∈ ([0x1, 0x2, 0x4, 0x8] : List Nibble), (Instr.setF i).wellFormed = false := by decide
theorem test_wf_rst_f_aliases : ∀ i ∈ ([0xE, 0xD, 0xB, 0x7] : List Nibble), (Instr.rstF i).wellFormed = false := by decide
theorem test_wf_xor_not : (Instr.xorRI .mx 0xF).wellFormed = false ∧ (Instr.xorRI .mx 0xE).wellFormed = true := by decide
theorem test_wf_ldpx_inc_x : (Instr.ldpxRQ .a .a).wellFormed = false ∧ (Instr.ldpxRQ .b .b).wellFormed = true := by decide
theorem test_wf_ldpy_inc_y : (Instr.ldpyRQ .a .a).wellFormed = false ∧ (Instr.ldpyRQ .a .b).wellFormed = true := by decide
theorem test_wf_unknown : (Instr.unknown 0x000).wellFormed = false ∧ (Instr.unknown 0xED0).wellFormed = true := by decide

/-- The words those terms would encode to go to the earlier rows. -/
theorem test_aliases_win : ∀ p ∈ ([
   (0b1111_0100_0001, .scf), (0b1111_0100_0010, .szf), (0b1111_0100_0100, .sdf), (0b1111_0100_1000, .ei),
   (0b1111_0101_1110, .rcf), (0b1111_0101_1101, .rzf), (0b1111_0101_1011, .rdf), (0b1111_0101_0111, .di),
   (0b1101_0010_1111, .notR .mx), (0b1110_1110_0000, .incX), (0b1110_1111_0000, .incY)] : List (Word12 × Instr)),
    decodeWord p.1 = p.2 := by decide

/-! ### Input normalisation and the one error (95_test_vectors.md F1 to F10, T1 to T11) -/

theorem test_containers : ∀ p ∈ ([([0x0A, 0xBC], 0xABC), ([0xFA, 0xBC], 0xABC), ([0x23], 0x023),
   ([0xAA, 0x0E, 0x41], 0xE41), ([0x12, 0x34, 0x56, 0x78], 0x678)] : List (List Byte × Word12)),
    wordOf p.1 = .ok p.2 := by decide
theorem test_fields : view 0xABC = ⟨0xA, 0xB, 0xC, 0xBC, 0x1C⟩ ∧ view 0xE7F = ⟨0xE, 0x7, 0xF, 0x7F, 0x1F⟩ := by decide
theorem test_empty_is_invalid : step State.reset = .fault .invalidInput := rfl
theorem test_table_words : decodeTableWord 16 0x0E41 = some (.pset 0x01) ∧ decodeTableWord 16 0x0FFF = some .nop7 := by decide

/-- V4, and the ends of the first and last unmatched range. -/
theorem test_results_unknown : ∀ b ∈ ([[0x0E, 0xD0], [0x0A, 0xF1], [0x0F, 0xFE]] : List (List Byte)),
    resultOf (call b 0x1234 0x15) = some ⟨.UNKNOWN, none, none, [], none⟩ := by decide

/-! ### The environment (95_test_vectors.md V3, V8, part 3) -/

/-- V8, in the order of its insertions. -/
theorem test_index_v8 : insertRecord 0x1000 0x1F (insertRecord 0x0200 0x05 (insertRecord 0x0010 0x01
    (insertRecord 0x0200 0x12 []))) = indexV8 := by decide
theorem test_query_v8 : [0x0000, 0x000F, 0x0010, 0x01FF, 0x0200, 0x0FFF, 0x1000, 0xFFFFFFFF].map
    (fun x => (query indexV8 x).pageValue) = [0x01, 0x01, 0x01, 0x01, 0x12, 0x12, 0x1F, 0x1F] := rfl
/-- V3b and V3c. -/
theorem test_query_v3 : (query [⟨0x010, 0x1F⟩] 0x00F).pageValue = 0x01 ∧ (query [⟨0x010, 0x1F⟩] 0x011).pageValue = 0x1F := by
  decide

/-- The first words of program P4: two `PSET`s, an unknown word and a jump. -/
def imageP4 : Image :=
  [(0x1F00, [0x0E, 0x5F]), (0x1F01, [0x02, 0xF0]), (0x1F02, [0x0E, 0x41]), (0x1F03, [0x0E, 0xD0]), (0x1F04, [0x00, 0x00])]

/-- The state P4's pre-pass leads to from reset. -/
def bootedP4 : State :=
  { State.reset with
    bytes := [0x00, 0x00]
    address := 0x1F04
    result := some ⟨.JP, some (.address 0x00), none, [⟨.unconditional, some 0x0100⟩], none⟩
    index := [⟨0x1F00, 0x1F⟩, ⟨0x1F02, 0x01⟩]
    phase := .finished }

theorem test_boot_p4 : boot imageP4 State.reset = .next bootedP4 := rfl
/-- The jumps at 0x1F01 and 0x1F04, governed by the first and the second `PSET`. -/
theorem test_jumps_p4 : resultOf (finished [⟨0x1F00, 0x1F⟩, ⟨0x1F02, 0x01⟩] [0x02, 0xF0] 0x1F01) =
      some ⟨.JP, some (.conditionName .C), some (.address 0xF0), [⟨.trueBranch, some 0x1FF0⟩, ⟨.falseBranch, some 0x1F02⟩], none⟩ ∧
    resultOf (finished [⟨0x1F00, 0x1F⟩, ⟨0x1F02, 0x01⟩] [0x00, 0x00] 0x1F04) =
      some ⟨.JP, some (.address 0x00), none, [⟨.unconditional, some 0x0100⟩], none⟩ := by decide
/-- While the index is being built a `PSET` enters it. -/
theorem test_pset_is_recorded : (step (call [0x0E, 0x43] 0x0201 0x01)) =
    .next { call [0x0E, 0x43] 0x0201 0x01 with
      result := some ⟨.PSET, some (.immediate 0x03), none, [], none⟩, index := [⟨0x0201, 0x03⟩] } := rfl
theorem test_decode_src_unfinished : decodeSrc [0x00, 0x23] 0x0100 State.reset = .refused .indexNotFinished := rfl

/-! ### Ports, targets, display, spelling -/

/-- V1 on the ports: `JP` is code 15, `Address` tag 2, one edge of kind 0. -/
theorem test_ports_v1 : (portBlock ⟨.twoOrMore, 0x1023, 0x0100, 0x01⟩).mnemonic = 15 ∧
    (portBlock ⟨.twoOrMore, 0x1023, 0x0100, 0x01⟩).op1 = ⟨2, 0x23⟩ ∧
    (portBlock ⟨.twoOrMore, 0x1023, 0x0100, 0x01⟩).edge0 = ⟨0, true, 0x0123⟩ := by decide
/-- V1's display step: byte address 0x246. -/
theorem test_display_v1 : displayAddress 0x123 = 0x246 := by decide
theorem test_call_page_from_record : callTarget .pageRec 0x1234 0x0F 0x80 = 0x1F80 := by decide
theorem test_display_tokens :
    displayTokens ⟨.JP, some (.conditionName .NZ), some (.address 0x05), [], none⟩ = [.symbol "JP", .symbol "NZ", .hex 0x0A] ∧
    displayTokens ⟨.LD, some (.registerIndirect .X), some (.register (.M 0xA)), [], none⟩ =
      [.symbol "LD", .symbol "MX", .symbol "MA"] ∧
    displayTokens ⟨.RETD, some (.immediate 0x7F), none, [], none⟩ = [.symbol "RETD", .hex 0x7F] := by decide
/-- `RETS` (B25) is shown with its comment. -/
theorem test_display_comment : (resultOf (call [0x0F, 0xDE] 0 0)).map displayTokens =
    some [.symbol "RETS", .comment .skipOnReturn] := by decide
theorem test_condition_words : conditionOf 0x210 = some .C ∧ conditionOf 0x705 = some .NZ ∧ conditionOf 0x023 = none := by
  decide

/-! ### Witnesses: for each obligation with hypotheses, a case that meets them -/

theorem witness_StepRunsTheDecodedInstruction :
    decode (call [0x0E, 0x43] 0x0201 0x01).bytes = .ok (.pset 0x03) ∧ (call [] 0 0).phase = .building ∧
    (finished indexV8 [] 0).phase = .finished ∧
    { State.reset with result := some ⟨.PSET, some (.immediate (BitVec.setWidth 8 (0x1F : PageValue))), none, [], none⟩ }.phase =
      .building ∧
    bootedP4.result = some ⟨.JP, some (.address 0x00), none, [⟨.unconditional, some 0x0100⟩], none⟩ ∧
    Mnemonic.JP ≠ .PSET := by decide

theorem witness_DecodeReadsBackEveryEncodedInstruction :
    (Instr.setF 0x3).wellFormed = true ∧ (Instr.ldpxRQ .a .b).wellFormed = true ∧ (Instr.unknown 0xFFE).wellFormed = true := by
  decide

theorem witness_DecodedInstructionsEncodeBackToTheirWord : decode [0xFA, 0xBC] = .ok (.sbcRQ .my .a) := by decide

/-- The row `NOT r` stands after 37 rows that do not hit 0xD0F; and no row hits 0xED0. -/
theorem witness_FirstMatchingRowWins : RULES = rulesFull ++ RULES.drop rulesFull.length ∧
    (∃ row rest, RULES.drop rulesFull.length = row :: rest ∧ row.hits 0xD0F = true ∧ row.form = "NOT r") ∧
    (∀ r ∈ rulesFull, r.hits 0xD0F = false) ∧ ∀ r ∈ RULES, r.hits 0xED0 = false :=
  ⟨rfl, ⟨_, _, rfl, by decide, rfl⟩, by decide, by decide⟩

/-- Rows 38 and 97 overlap (word 0xD0F); rows 7 and 85 do not. -/
theorem witness_ElevenPairsOfRowsOverlapAndNoOther : ∃ a ∈ RULES, ∃ b ∈ RULES, ∃ c ∈ RULES, a.prio < b.prio ∧
    (a.prio, b.prio) ∈ overlaps ∧ c.prio < b.prio ∧ (c.prio, b.prio) ∉ overlaps :=
  ⟨RULES[37], List.getElem_mem _, RULES[96], List.getElem_mem _, RULES[6], List.getElem_mem _, by decide⟩

/-- In a list sorted by priority two members stand in the order of their priorities. -/
theorem sublist_of_prio_lt {a b : Row} (hab : a.prio < b.prio) :
    ∀ {l : List Row}, l.Pairwise (fun r r' => r.prio < r'.prio) → a ∈ l → b ∈ l → List.Sublist [a, b] l
  | r :: rest, h, ha, hb => by
    obtain ⟨hr, hrest⟩ := List.pairwise_cons.mp h
    rcases List.mem_cons.mp ha with rfl | ha'
    · rcases List.mem_cons.mp hb with rfl | hb
      · omega
      · exact List.Sublist.cons_cons _ (List.singleton_sublist.mpr hb)
    · rcases List.mem_cons.mp hb with rfl | hb
      · exact absurd (hr a ha') (by omega)
      · exact (sublist_of_prio_lt hab hrest ha' hb).cons _

theorem witness_AnyOrderThatKeepsTheOverlapsDecodesAlike : RULES.Perm RULES ∧
    ∀ a ∈ RULES, ∀ b ∈ RULES, (a.prio, b.prio) ∈ overlaps → List.Sublist [a, b] RULES := by
  refine ⟨List.Perm.refl _, fun a ha b hb h => sublist_of_prio_lt ?_ (by decide) ha hb⟩
  have : ∀ p ∈ overlaps, p.1 < p.2 := by decide
  exact this _ h

theorem witness_UnmatchedWordsAreTheSeventyThree :
    wordOf [0x0A, 0xF1] = .ok 0xAF1 ∧ unmatched 0xAF1 = true ∧ wordOf [0x0A, 0xF5] = .ok 0xAF5 ∧ unmatched 0xAF5 = false := by
  decide

theorem witness_UnknownIsAResultAndNotAnError :
    wordOf (call [0x0E, 0xD0] 0x10 0x01).bytes = .ok 0xED0 ∧ ∀ row ∈ RULES, row.hits 0xED0 = false := by decide

theorem witness_WordIsTheLowTwelveBitsOfTheLastTwoBytes :
    (0x0ABC : Container).extractLsb' 0 12 = (0xFABC : Container).extractLsb' 0 12 := by decide

theorem witness_FieldsAreTheSlicesOfTheWord : wordOf [0xFA, 0xBC] = .ok 0xABC := by decide

theorem witness_OneByteIsAlwaysAnUnconditionalJump : (call [0xFF] 0x0100 0x01).bytes = [0xFF] := by decide

theorem witness_OnlyEmptyInputFails : State.reset.bytes = [] ∧ (call [0x23] 0 0).bytes ≠ [] ∧
    Carries ⟨.zero, 0xFFFF, 0x0100, 0x01⟩ [] 0x0100 0x01 := ⟨rfl, by decide, rfl, rfl, rfl⟩

/-- Two states that differ in result, index and phase; and two that fail alike. -/
theorem witness_ResultDependsOnTheInputsAlone :
    (call [0x00, 0x00] 0x1F04 0x01).bytes = bootedP4.bytes ∧ (call [0x00, 0x00] 0x1F04 0x01).address = bootedP4.address ∧
    boundPageRec (call [0x00, 0x00] 0x1F04 0x01) = boundPageRec bootedP4 ∧
    (∃ s', step (call [0x00, 0x00] 0x1F04 0x01) = .next s') ∧ step (call [] 0 0x01) = .fault .invalidInput :=
  ⟨by decide, by decide, by decide, ⟨_, rfl⟩, rfl⟩

theorem witness_CallingTwiceChangesNothingMore : ∃ t, step (call [0x0E, 0x43] 0x0201 0x01) = .next t := ⟨_, rfl⟩

theorem witness_FamilyRowsWithEarlierRows :
    ((0x0 : Nibble) ≠ 0x1 ∧ (0x0 : Nibble) ≠ 0x2 ∧ (0x0 : Nibble) ≠ 0x4 ∧ (0x0 : Nibble) ≠ 0x8) ∧
    ((0xF : Nibble) ≠ 0xE ∧ (0xF : Nibble) ≠ 0xD ∧ (0xF : Nibble) ≠ 0xB ∧ (0xF : Nibble) ≠ 0x7) ∧
    (0xE : Nibble) ≠ 0xF ∧ ((.a, .b) : Sel × Sel) ≠ (.a, .a) ∧ ((.my, .my) : Sel × Sel) ≠ (.a, .a) := by decide

/-- A word of each edge class, at the ends of the ranges. -/
theorem witness_WordsOfEveryEdgeClass : ∀ p ∈ ([([0x00, 0xFF], 0x0FF), ([0x02, 0x00], 0x200), ([0x03, 0xFF], 0x3FF),
   ([0x04, 0x00], 0x400), ([0x05, 0xFF], 0x5FF), ([0x06, 0x00], 0x600), ([0x07, 0xFF], 0x7FF), ([0x0F, 0xE8], 0xFE8),
   ([0x01, 0x00], 0x100), ([0x0F, 0xDE], 0xFDE), ([0x0F, 0xDF], 0xFDF), ([0x08, 0x00], 0x800)] : List (List Byte × Word12)),
    wordOf (call p.1 0x1FFF 0x1F).bytes = .ok p.2 := by decide

theorem witness_OnlyJumpsReadThePageAndOnlyBranchesTheAddress :
    (wordOf [0x04, 0x80] = .ok 0x480 ∧ (∃ d d', decodeCall [0x04, 0x80] 0x1234 0x00 = .ok d ∧
      decodeCall [0x04, 0x80] 0x1234 0x1F = .ok d' ∧ upper 0x480 ∉ ([0x0, 0x2, 0x3, 0x6, 0x7] : List Nibble) ∧ upper 0x480 = 0x4)) ∧
    (wordOf [0x02, 0x10] = .ok 0x210 ∧ (∃ d d', decodeCall [0x02, 0x10] 0x01FF 0x1F = .ok d ∧
      decodeCall [0x02, 0x10] 0x01FF 0x1F = .ok d' ∧ d = d' ∧ upper 0x210 ∈ ([0x2, 0x3, 0x6, 0x7] : List Nibble))) ∧
    (wordOf [0x05, 0x80] = .ok 0x580 ∧ (∃ d d', decodeCall [0x05, 0x80] 0x1ABC 0x01 = .ok d ∧
      decodeCall [0x05, 0x80] 0x0ABC 0x01 = .ok d' ∧ upper 0x580 = 0x5)) ∧
    (wordOf [0x00, 0x23] = .ok 0x023 ∧ (∃ d d', decodeCall [0x00, 0x23] 0 0x01 = .ok d ∧
      decodeCall [0x00, 0x23] 9 0x01 = .ok d' ∧ upper 0x023 ∉ ([0x2, 0x3, 0x4, 0x5, 0x6, 0x7] : List Nibble))) :=
  ⟨⟨by decide, _, _, rfl, rfl, by decide, by decide⟩, ⟨by decide, _, _, rfl, rfl, rfl, by decide⟩,
    ⟨by decide, _, _, rfl, rfl, by decide⟩, ⟨by decide, _, _, rfl, rfl, by decide⟩⟩

/-- A state no reset leaves behind, with a filled index and a result, that meets the invariant and steps. -/
theorem witness_EveryStepKeepsTheInvariant : Inv bootedP4 ∧ ∃ t, step bootedP4 = .next t := by
  refine ⟨⟨by decide, fun d h => ?_⟩, ⟨_, rfl⟩⟩
  obtain rfl : _ = d := Option.some.inj h
  refine ⟨by decide, trivial, ?_, by decide, ?_⟩
  · intro e he _ t ht
    obtain rfl : e = ⟨.unconditional, some 0x0100⟩ := by simpa using he
    obtain rfl : (0x0100 : WordAddr) = t := Option.some.inj ht
    decide
  · rintro a (h | h)
    · obtain rfl : (0x00 : BitVec 16) = a := by simpa using h
      decide
    · cases h

theorem witness_InsertKeepsTheFirstValueAtAnAddress :
    IndexWf indexV8 ∧ (∃ r ∈ indexV8, r.address = 0x0200) ∧ ∀ r ∈ indexV8, r.address ≠ 0x0201 := by decide

theorem witness_QueryAnswersTheGreatestAddressAtOrBelow : IndexWf indexV8 ∧
    (∃ r ∈ indexV8, r.address.toNat ≤ (0x0010 : WordAddr).toNat) ∧
    ∀ r ∈ indexV8, (0x000F : WordAddr).toNat < r.address.toNat := by decide

theorem witness_IndexIsAppendOnlyWithOneRecordPerAddress :
    IndexWf { call [0x0E, 0x43] 0x0201 0x01 with index := indexV8 }.index ∧
    (∃ t, step { call [0x0E, 0x43] 0x0201 0x01 with index := indexV8 } = .next t) ∧
    ∃ r ∈ indexV8, ∃ r' ∈ indexV8, r.address = r'.address := ⟨by decide, ⟨_, rfl⟩, by decide⟩

theorem witness_FinishedIndexIsReadOnly : bootedP4.phase = .finished ∧ ∃ t, step bootedP4 = .next t := ⟨rfl, _, rfl⟩

theorem imageP4_wf : ImageWf imageP4 := by unfold ImageWf; decide

theorem witness_BootRecordsExactlyThePageSettingWords : ImageWf imageP4 ∧
    ∃ u, decodeSrc [0x02, 0xF0] 0x1F01 bootedP4 = .next u := ⟨imageP4_wf, _, rfl⟩

theorem witness_BootOrderDoesNotMatter : ImageWf imageP4 ∧ imageP4.Perm imageP4.reverse ∧
    (∃ t, boot imageP4 State.reset = .next t) ∧ ∃ t, boot imageP4.reverse bootedP4 = .next t :=
  ⟨imageP4_wf, by decide, ⟨_, test_boot_p4⟩, ⟨_, rfl⟩⟩

/-- Address 0x1F04 is governed by the `PSET 0x01` at 0x1F02, and 0x1F01 by the `PSET 0x1F` at 0x1F00. -/
theorem pageAt_imageP4_governed : PageAt imageP4 0x1F04 0x01 ∧ PageAt imageP4 0x1F01 0x1F := by
  refine ⟨.inl ⟨0x1F02, ⟨[0x0E, 0x41], by decide, by decide⟩, by decide, ?_⟩,
    .inl ⟨0x1F00, ⟨[0x0E, 0x5F], by decide, by decide⟩, by decide, ?_⟩⟩ <;>
  · rintro a p ⟨bytes, hm, hd⟩ hle
    simp only [imageP4, List.mem_cons, Prod.mk.injEq, List.not_mem_nil, or_false] at hm
    rcases hm with ⟨rfl, rfl⟩ | ⟨rfl, rfl⟩ | ⟨rfl, rfl⟩ | ⟨rfl, rfl⟩ | ⟨rfl, rfl⟩ <;>
      first | decide | exact absurd hle (by decide) | cases hd

/-- Address 0x1EFF lies below every `PSET` of the image. -/
theorem pageAt_imageP4_default : PageAt imageP4 0x1EFF 0x01 := by
  refine .inr ⟨rfl, ?_⟩
  rintro a p ⟨bytes, hm, -⟩
  have : ∀ e ∈ imageP4, (0x1EFF : WordAddr).toNat < e.1.toNat := by decide
  exact this _ hm

/-- A word of each `JP` row, at a governed address and below every record. -/
theorem witness_JumpAfterBootFollowsTheNearestPageSettingBelow : ImageWf imageP4 ∧
    boot imageP4 State.reset = .next bootedP4 ∧ PageAt imageP4 0x1F04 0x01 ∧ PageAt imageP4 0x1F01 0x1F ∧
    PageAt imageP4 0x1EFF 0x01 ∧ (wordOf [0x00, 0x10] = .ok 0x010 ∧ upper 0x010 = 0x0) ∧
    ∀ v ∈ ([([0x02, 0x00], 0x200, .C), ([0x03, 0xFF], 0x3FF, .NC), ([0x06, 0x00], 0x600, .Z), ([0x07, 0xFF], 0x7FF, .NZ)] :
      List (List Byte × Word12 × CondName)), wordOf v.1 = .ok v.2.1 ∧
      (upper v.2.1, v.2.2) ∈ ([(0x2, .C), (0x3, .NC), (0x6, .Z), (0x7, .NZ)] : List (Nibble × CondName)) :=
  ⟨imageP4_wf, test_boot_p4, pageAt_imageP4_governed.1, pageAt_imageP4_governed.2, pageAt_imageP4_default, by decide,
    by decide⟩

theorem witness_TwoArgumentCallBindsTheQueriedPage : (finished indexV8 [0x00, 0x23] 0x0200).phase = .finished ∧
    ∃ t, step (finished indexV8 [0x00, 0x23] 0x0200) = .next t := ⟨rfl, _, rfl⟩

theorem witness_TwoArgumentCallNeedsAFinishedIndex : State.reset.phase = .building := by decide

/-- Another `PSET` presented at an address that has a record, while the index is built and after. -/
theorem witness_IndexDoesNotTrackAChangedImage : IndexWf { State.reset with index := indexV8 }.index ∧
    (∃ r ∈ indexV8, r.address = 0x0200) ∧
    (∃ t, step ({ State.reset with index := indexV8 }.present [0x0E, 0x5F] 0x0200) = .next t) ∧
    ∃ t, step ((finished indexV8 [] 0).present [0x0E, 0x5F] 0x0200) = .next t := ⟨by decide, by decide, ⟨_, rfl⟩, ⟨_, rfl⟩⟩

/-- No byte, one byte with any bits above it on the bus, and three bytes. -/
theorem witness_PortsCarryTheResult : Carries ⟨.zero, 0xFFFF, 5, 3⟩ [] 5 3 ∧ Carries ⟨.one, 0xAB23, 5, 3⟩ [0x23] 5 3 ∧
    Carries ⟨.twoOrMore, 0x0E41, 5, 3⟩ [0xAA, 0x0E, 0x41] 5 3 :=
  ⟨⟨rfl, rfl, rfl⟩, ⟨rfl, rfl, rfl, by decide⟩, ⟨rfl, rfl, rfl, by decide⟩⟩

theorem witness_AliasesAreInstancesOfTheirGeneralRow : aliasOf .ei = some (.setF 0x8) ∧
    aliasOf (.notR .my) = some (.xorRI .my 0xF) := by decide

theorem witness_DisplayDoublesEveryAddress : (0xFFFFFFFE : WordAddr).toNat + 1 < 2 ^ 32 := by decide

end Sys2Proof.Tests
end

section
/-! SUPPORT. What one call answers, said once: the instruction meanings and the columns of the rule list give the same
output, and a step is that output recorded in the environment. -/

namespace Sys2Proof.Machine

/-! ### What an instruction outputs -/

/-- The `DecodedInstruction` an instruction's meaning records; `exec_eq` says that it reads `address` and `page_rec`
alone. -/
def outputOf (i : Instr) (address : WordAddr) (pageRec : PageValue) : DecodedInstruction :=
  match exec i { State.reset with address := address, pageRec := pageRec } with
  | .next t => t.result.getD unknownOutput
  | _ => unknownOutput

/-- Every instruction answers, and only records its output. -/
theorem exec_eq (i : Instr) (s : State) : exec i s = .next (s.withResult (outputOf i s.address s.pageRec)) := by
  cases i <;> rfl

/-! ### Rows of the rule list -/

/-- The row's instruction outputs the row's columns, for every word the row matches. -/
def RowAgrees (row : Row) : Prop :=
  ∀ (w : Word12) (address : WordAddr) (pageRec : PageValue), row.hits w = true →
    outputOf (row.build w) address pageRec = rowAction Config.params row.toRowColumns w address pageRec

/-- A row matches a word when the word's masked bits are the row's (rule R67). -/
theorem hits_iff {row : RowColumns} {w : Word12} : row.hits w = true ↔ w &&& row.mask = row.mtch := beq_iff_eq

/-- A row without free bits matches one word. -/
theorem eq_mtch_of_hits {row : RowColumns} {w : Word12} (hmask : row.mask = 0xFFF) (h : row.hits w = true) :
    w = row.mtch := by
  rw [← hits_iff.mp h, hmask]
  exact (BitVec.and_allOnes (x := w)).symm

theorem mask_of_mem_rulesFull : ∀ row ∈ rulesFull, row.mask = 0xFFF := by decide

theorem rulesFull_agree : ∀ row ∈ rulesFull, RowAgrees row := by
  have hmtch : ∀ row ∈ rulesFull, ∀ (address : WordAddr) (pageRec : PageValue),
      outputOf (row.build row.mtch) address pageRec =
        rowAction Config.params row.toRowColumns row.mtch address pageRec := by
    rw [← List.forall_iff_forall_mem, rulesFull]
    and_intros <;> (intro a p; rfl)
  intro row hrow w a p hw
  rw [eq_mtch_of_hits (mask_of_mem_rulesFull row hrow) hw]
  exact hmtch row hrow a p

theorem rulesTen_agree : ∀ row ∈ rulesTen, RowAgrees row := by
  rw [← List.forall_iff_forall_mem, rulesTen]
  and_intros <;> (intro w a p _; rfl)

theorem rulesEight_agree : ∀ row ∈ rulesEight, RowAgrees row := by
  rw [← List.forall_iff_forall_mem, rulesEight]
  and_intros <;> (intro w a p _; rfl)

theorem rulesCoarse_agree : ∀ row ∈ rulesCoarse, RowAgrees row := by
  rw [← List.forall_iff_forall_mem, rulesCoarse]
  and_intros <;> (intro w a p _; rfl)

theorem RULES_agree : ∀ row ∈ RULES, RowAgrees row := by
  simp only [RULES, List.forall_mem_append]
  exact ⟨⟨⟨rulesFull_agree, rulesTen_agree⟩, rulesEight_agree⟩, rulesCoarse_agree⟩

theorem decodeRow_some {rules : List Row} {w : Word12} {row : Row} (h : decodeRow rules w = some row) :
    row ∈ rules ∧ row.hits w = true :=
  ⟨List.mem_of_find?_eq_some h, List.find?_some (p := fun row : Row => row.hits w) h⟩

theorem decodeRow_none {rules : List Row} {w : Word12} (h : decodeRow rules w = none) :
    ∀ row ∈ rules, row.hits w = false := by simpa using List.find?_eq_none.mp h

/-- The block's output for a word is a row's that matches it, or `UNKNOWN` where no row matches (rules R68, R80). -/
theorem decodedWord_cases (w : Word12) (address : WordAddr) (pageRec : PageValue) :
    (∃ row ∈ RULES, row.hits w = true ∧ decodedWord RULES Config.params w address pageRec =
      rowAction Config.params row.toRowColumns w address pageRec) ∨
    ((∀ row ∈ RULES, row.hits w = false) ∧
      decodedWord RULES Config.params w address pageRec = unknownOutput) := by
  unfold decodedWord
  cases h : decodeRow RULES w with
  | some row => exact .inl ⟨row, (decodeRow_some h).1, (decodeRow_some h).2, rfl⟩
  | none => exact .inr ⟨decodeRow_none h, rfl⟩

/-- The instruction meanings and the columns of the rule list give every word the same output. -/
theorem outputOf_decodeWord (w : Word12) (address : WordAddr) (pageRec : PageValue) :
    outputOf (decodeWord w) address pageRec = decodedWord RULES Config.params w address pageRec := by
  unfold decodeWord decodeWordWith decodedWord
  cases h : decodeRow RULES w with
  | some row => exact RULES_agree row (decodeRow_some h).1 w address pageRec (decodeRow_some h).2
  | none => rfl

/-! ### One call -/

/-- The state after a call that outputs `d`: `page_rec` bound (rule R29), `d` recorded, a decoded `PSET` entered (rule
R33). -/
def State.answer (s : State) (d : DecodedInstruction) : State := (s.bindPageRec.withResult d).recordPset

@[simp] theorem State.answer_pageRec (s : State) (d : DecodedInstruction) :
    (s.answer d).pageRec = boundPageRec s := rfl
@[simp] theorem State.answer_result (s : State) (d : DecodedInstruction) : (s.answer d).result = some d := rfl
@[simp] theorem State.answer_phase (s : State) (d : DecodedInstruction) : (s.answer d).phase = s.phase := rfl

theorem decodeCall_of_wordOf {bytes : List Byte} {w : Word12} (h : wordOf bytes = .ok w) (address : WordAddr)
    (pageRec : PageValue) :
    decodeCall bytes address pageRec = .ok (decodedWord RULES Config.params w address pageRec) := by
  unfold decodeCall decodeCallWith
  rw [h]

@[simp] theorem decodeCall_nil (address : WordAddr) (pageRec : PageValue) :
    decodeCall [] address pageRec = .error .invalidInput := rfl

theorem decodeCall_error {bytes : List Byte} {address : WordAddr} {pageRec : PageValue} {e : DecodeError}
    (h : decodeCall bytes address pageRec = .error e) : bytes = [] := by
  by_contra hne
  obtain ⟨w, hw⟩ := wordOf_ok_of_ne_nil hne
  rw [decodeCall_of_wordOf hw] at h
  cases h

theorem step_of_nil {s : State} (h : s.bytes = []) : step s = .fault .invalidInput := by simp [step, h]

/-- A call with a word answers that word's output. -/
theorem step_of_wordOf {s : State} {w : Word12} (h : wordOf s.bytes = .ok w) :
    step s = .next (s.answer (decodedWord RULES Config.params w s.address (boundPageRec s))) := by
  have hdecode : decode s.bytes = .ok (decodeWord w) := decode_ok_iff.mpr ⟨w, h, rfl⟩
  simp only [step, hdecode, exec_eq, outputOf_decodeWord]
  rfl

/-- A call whose bytes decode answers the output of the instruction. -/
theorem step_of_decode {s : State} {i : Instr} (h : decode s.bytes = .ok i) :
    step s = .next (s.answer (outputOf i s.address (boundPageRec s))) := by
  obtain ⟨w, hw, rfl⟩ := decode_ok_iff.mp h
  rw [step_of_wordOf hw, outputOf_decodeWord]

theorem decode_ok_of_ne_nil {bytes : List Byte} (h : bytes ≠ []) : ∃ i, decode bytes = .ok i := by
  obtain ⟨w, hw⟩ := wordOf_ok_of_ne_nil h
  exact ⟨_, decode_ok_iff.mpr ⟨w, hw, rfl⟩⟩

/-- A step is the three-input block at the bound page value, recorded in the environment. -/
theorem step_of_decodeCall {s : State} {d : DecodedInstruction}
    (h : decodeCall s.bytes s.address (boundPageRec s) = .ok d) : step s = .next (s.answer d) := by
  have hne : s.bytes ≠ [] := by
    intro hnil
    simp [hnil] at h
  obtain ⟨w, hw⟩ := wordOf_ok_of_ne_nil hne
  rw [decodeCall_of_wordOf hw] at h
  cases h
  exact step_of_wordOf hw

/-- All that a step can do when it answers. -/
theorem step_next {s t : State} (h : step s = .next t) :
    ∃ d, decodeCall s.bytes s.address (boundPageRec s) = .ok d ∧ t = s.answer d := by
  cases hd : decodeCall s.bytes s.address (boundPageRec s) with
  | ok d =>
    rw [step_of_decodeCall hd] at h
    cases h
    exact ⟨d, rfl, rfl⟩
  | error e =>
    rw [step_of_nil (decodeCall_error hd)] at h
    cases h

theorem step_ne_refused (s : State) (r : Refusal) : step s ≠ .refused r := by
  intro h
  cases hd : decodeCall s.bytes s.address (boundPageRec s) with
  | ok d => simp [step_of_decodeCall hd] at h
  | error e => simp [step_of_nil (decodeCall_error hd)] at h

/-- A bus that carries no bytes drives the port of the error (rules R39, R270). -/
theorem portBlock_of_carries_nil {pin : PortIn} {address : WordAddr} {pageRec : PageValue}
    (h : Carries pin [] address pageRec) : (portBlock pin).invalidInput = true := by
  obtain ⟨-, -, hn⟩ := h
  simp [portBlock, portWord, hn]

/-- Only a call without bytes fails (rule R270). -/
theorem step_fault {s : State} {f : Fault} (h : step s = .fault f) : s.bytes = [] := by
  cases hd : decodeCall s.bytes s.address (boundPageRec s) with
  | ok d => simp [step_of_decodeCall hd] at h
  | error e => exact decodeCall_error hd

end Sys2Proof.Machine
end

section
/-! SUPPORT. What the columns of the rule list say of a word: every row fixes the upper nibble, and the rows of the words
that 10_state.md rules R23 and R25 name one by one have no free bit. -/

namespace Sys2Proof.Machine

open Sys2Proof.Safety

theorem upper_mask_of_mem_RULES : ∀ row ∈ RULES, upper row.mask = 0xF := by decide

theorem upper_and (w w' : Word12) : upper (w &&& w') = upper w &&& upper w' := BitVec.extractLsb'_and

/-- Every row fixes the upper nibble of the words it matches (rule R72). -/
theorem upper_eq_of_hits {row : Row} {w : Word12} (hrow : row ∈ RULES) (h : row.hits w = true) :
    upper w = upper row.mtch := by
  rw [← hits_iff.mp h, upper_and, upper_mask_of_mem_RULES row hrow]
  exact (BitVec.and_allOnes (x := upper w)).symm

/-- A row that matches `v` has `v` as its column `match`, and such a row has no free bit. -/
def OwnRow (v : Word12) : Prop := ∀ row ∈ RULES,
  (row.hits v = true → row.mtch = v) ∧ (row.mtch = v → row.mask = 0xFFF)

theorem ownRow_rets : OwnRow 0xFDE := by unfold OwnRow; decide
theorem ownRow_ret : OwnRow 0xFDF := by unfold OwnRow; decide
theorem ownRow_jpba : OwnRow 0xFE8 := by unfold OwnRow; decide

theorem OwnRow.eq_iff {v w : Word12} {row : Row} (hv : OwnRow v) (hrow : row ∈ RULES) (h : row.hits w = true) :
    w = v ↔ row.mtch = v := by
  obtain ⟨hmtch, hmask⟩ := hv row hrow
  constructor
  · rintro rfl
    exact hmtch h
  · intro hm
    rw [eq_mtch_of_hits (hmask hm) h, hm]

/-! ### Edge classes -/

/-- The edge class of a word (rule R23), by its upper nibble and three full words. -/
def edgeClassOf (w : Word12) : EdgeClass :=
  if upper w = 0x0 then .jp
  else if upper w = 0x2 ∨ upper w = 0x3 ∨ upper w = 0x6 ∨ upper w = 0x7 then .jpcc
  else if upper w = 0x4 then .call
  else if upper w = 0x5 then .calz
  else if w = 0xFE8 then .indirect
  else if upper w = 0x1 ∨ w = 0xFDE ∨ w = 0xFDF then .ret
  else .none

theorem edges_column_eq : ∀ row ∈ RULES, row.edges = edgeClassOf row.mtch := by decide

theorem edgeClassOf_eq_mtch {row : Row} {w : Word12} (hrow : row ∈ RULES) (h : row.hits w = true) :
    edgeClassOf w = edgeClassOf row.mtch := by
  simp only [edgeClassOf, upper_eq_of_hits hrow h, ownRow_rets.eq_iff hrow h, ownRow_ret.eq_iff hrow h,
    ownRow_jpba.eq_iff hrow h]

/-- A row's edge class is that of the words it matches. -/
theorem edges_eq_of_hits {row : Row} {w : Word12} (hrow : row ∈ RULES) (h : row.hits w = true) :
    row.edges = edgeClassOf w := by rw [edges_column_eq row hrow, edgeClassOf_eq_mtch hrow h]

theorem exists_row_of_upper_lt : ∀ u : Nibble, u.toNat < 8 →
    ∃ row ∈ RULES, row.mask = 0xF00 ∧ row.mtch = u.setWidth 12 <<< 8 := by decide

theorem and_upper_mask (w : Word12) : w &&& 0xF00#12 = (upper w).setWidth 12 <<< 8 := by
  apply BitVec.eq_of_getElem_eq
  intro i hi
  interval_cases i <;> simp [upper]

/-- The words of upper nibbles 0 to 7 are all matched. -/
theorem upper_ge_of_unmatched {w : Word12} (h : ∀ row ∈ RULES, row.hits w = false) : 8 ≤ (upper w).toNat := by
  by_contra hlt
  obtain ⟨row, hrow, hmask, hmtch⟩ := exists_row_of_upper_lt (upper w) (by omega)
  have hhit : row.hits w = true := by
    rw [hits_iff, hmask, hmtch]
    exact and_upper_mask w
  simp [h row hrow] at hhit

theorem ne_of_unmatched {v w : Word12} (hv : ∃ row ∈ RULES, row.hits v = true)
    (h : ∀ row ∈ RULES, row.hits w = false) : w ≠ v := by
  rintro rfl
  obtain ⟨row, hrow, hhit⟩ := hv
  simp [h row hrow] at hhit

theorem edgeClassOf_unmatched {w : Word12} (h : ∀ row ∈ RULES, row.hits w = false) : edgeClassOf w = .none := by
  have hupper := upper_ge_of_unmatched h
  have hrets : w ≠ 0xFDE := ne_of_unmatched (by decide) h
  have hret : w ≠ 0xFDF := ne_of_unmatched (by decide) h
  have hjpba : w ≠ 0xFE8 := ne_of_unmatched (by decide) h
  have hne (u : Nibble) (hu : u.toNat < 8) : upper w ≠ u := by
    rintro rfl
    omega
  grind [edgeClassOf]

/-- The edges the block outputs for a word are those of the word's edge class. -/
theorem decodedWord_branchEdges (w : Word12) (address : WordAddr) (pageRec : PageValue) :
    (decodedWord RULES Config.params w address pageRec).branchEdges =
      edgesOf Config.params (edgeClassOf w) address pageRec (combinedLow8 w) := by
  rcases decodedWord_cases w address pageRec with ⟨row, hrow, hhit, heq⟩ | ⟨hnone, heq⟩
  · rw [heq, ← edges_eq_of_hits hrow hhit]
    rfl
  · rw [heq, edgeClassOf_unmatched hnone]
    rfl

/-- Only edge class `jpcc` has a False edge (rule R24). -/
theorem edgesOf_has_falseBranch_iff (p : Params) (c : EdgeClass) (address : WordAddr) (pageRec : PageValue)
    (step : Byte) : (∃ e ∈ edgesOf p c address pageRec step, e.kind = .falseBranch) ↔ c = .jpcc := by
  cases c <;> simp [edgesOf, jpEdges, jpccEdges, callEdges, calzEdges, indirectEdges, retEdges]

theorem edgeClassOf_eq_jpcc_iff (w : Word12) :
    edgeClassOf w = .jpcc ↔ upper w = 0x2 ∨ upper w = 0x3 ∨ upper w = 0x6 ∨ upper w = 0x7 := by
  unfold edgeClassOf
  split_ifs <;> simp_all

/-! ### Targets as bit fields -/

/-- `JpTarget` is the page record followed by the step (rule R100). -/
theorem jpTarget_eq_append (pageRec : PageValue) (step : Byte) : jpTarget pageRec step = 0#19 ++ pageRec ++ step := by
  apply BitVec.eq_of_getLsbD_eq
  intro i hi
  simp only [jpTarget, assembleTarget, bankBit, pageNibble, BitVec.getLsbD_or, BitVec.getLsbD_shiftLeft,
    BitVec.getLsbD_setWidth, BitVec.getLsbD_extractLsb', BitVec.getLsbD_append]
  grind

/-- `CallTarget` with the page of the address is the address's bits 12:8 and the step (rule R101). -/
theorem callTarget_address_eq_mask (address : WordAddr) (pageRec : PageValue) (step : Byte) :
    callTarget .address address pageRec step = (address &&& 0x1F00) ||| step.setWidth 32 := by
  apply BitVec.eq_of_getLsbD_eq
  intro i hi
  interval_cases i <;> simp [callTarget, assembleTarget]

/-- `CalzTarget` for page 0 is the address's bit 12 and the step (rule R102). -/
theorem calzTarget_zero_eq_mask (address : WordAddr) (step : Byte) :
    calzTarget 0#4 address step = (address &&& 0x1000) ||| step.setWidth 32 := by
  apply BitVec.eq_of_getLsbD_eq
  intro i hi
  interval_cases i <;> simp [calzTarget, assembleTarget]

theorem params_callPageSource : Config.params.callPageSource = .address := rfl
theorem params_calzPage : Config.params.calzPage = 0 := rfl

/-- The edge list of a word is that of its edge class at the spec's parameters (rules R100 to R103). -/
theorem edgesByWord_eq (w : Word12) (address : WordAddr) (pageRec : PageValue) :
    edgesByWord w address pageRec =
      edgesOf Config.params (edgeClassOf w) address pageRec (combinedLow8 w) := by
  unfold edgesByWord edgeClassOf
  split_ifs <;> simp [edgesOf, jpEdges, jpccEdges, callEdges, calzEdges, indirectEdges, retEdges, nextAddr,
    params_calzPage, params_callPageSource, jpTarget_eq_append, callTarget_address_eq_mask, calzTarget_zero_eq_mask]

/-! ### Comment and condition name -/

theorem comment_column_eq : ∀ row ∈ RULES,
    row.comment = (if row.mtch = 0xFDE then some .skipOnReturn else none) := by decide

theorem mnemonic_column_eq_RETS_iff : ∀ row ∈ RULES, row.mnemonic = .RETS ↔ row.mtch = 0xFDE := by decide

/-- The comment is set for the word of `RETS` and for no other (rule R25). -/
theorem decodedWord_comment (w : Word12) (address : WordAddr) (pageRec : PageValue) :
    (decodedWord RULES Config.params w address pageRec).comment =
      if w = 0xFDE then some .skipOnReturn else none := by
  rcases decodedWord_cases w address pageRec with ⟨row, hrow, hhit, heq⟩ | ⟨hnone, heq⟩
  · simp only [heq, rowAction, comment_column_eq row hrow, ownRow_rets.eq_iff hrow hhit]
  · rw [heq, if_neg (ne_of_unmatched (by decide) hnone)]
    rfl

theorem decodedWord_mnemonic_eq_RETS_iff (w : Word12) (address : WordAddr) (pageRec : PageValue) :
    (decodedWord RULES Config.params w address pageRec).mnemonic = .RETS ↔ w = 0xFDE := by
  rcases decodedWord_cases w address pageRec with ⟨row, hrow, hhit, heq⟩ | ⟨hnone, heq⟩
  · simp only [heq, rowAction, mnemonic_column_eq_RETS_iff row hrow, ownRow_rets.eq_iff hrow hhit]
  · have hne : w ≠ 0xFDE := ne_of_unmatched (by decide) hnone
    simp only [heq, unknownOutput, hne, reduceCtorEq]

/-- A word's condition, read off its upper nibble (rule R21). -/
theorem conditionOf_eq_some_iff (w : Word12) (c : CondName) : conditionOf w = some c ↔
    (upper w = 0x2 ∧ c = .C) ∨ (upper w = 0x3 ∧ c = .NC) ∨ (upper w = 0x6 ∧ c = .Z) ∨ (upper w = 0x7 ∧ c = .NZ) := by
  unfold conditionOf
  generalize upper w = u
  revert u
  cases c <;> decide

theorem conditionOf_eq_mtch {row : Row} {w : Word12} (hrow : row ∈ RULES) (h : row.hits w = true) :
    conditionOf w = conditionOf row.mtch := by unfold conditionOf; rw [upper_eq_of_hits hrow h]

theorem conditionOf_unmatched {w : Word12} (h : ∀ row ∈ RULES, row.hits w = false) : conditionOf w = none := by
  have hupper := upper_ge_of_unmatched h
  refine Option.eq_none_iff_forall_ne_some.mpr fun c hc => ?_
  rcases (conditionOf_eq_some_iff w c).mp hc with ⟨hu, -⟩ | ⟨hu, -⟩ | ⟨hu, -⟩ | ⟨hu, -⟩ <;> simp [hu] at hupper

/-- The one builder of a condition name is `Cond`. -/
theorem buildOperand_eq_conditionName_iff (w : Word12) (b : OperandBuilder) (c : CondName) :
    buildOperand w b = .conditionName c ↔ b = .cond c := by
  cases b with
  | rq f => cases h : selField f w <;> simp [buildOperand, selOperand, h]
  | imm f => cases f <;> simp [buildOperand, immField, immNibble, immPage, immByte]
  | _ => simp [buildOperand, addrStep, memName]

theorem operand1_column_eq_cond_iff (c : CondName) :
    ∀ row ∈ RULES, row.operand1 = some (.cond c) ↔ conditionOf row.mtch = some c := by cases c <;> decide

theorem operand2_column_ne_cond (c : CondName) : ∀ row ∈ RULES, row.operand2 ≠ some (.cond c) := by cases c <;> decide

/-- The first operand is a condition name exactly for the words of a condition (rule R21). -/
theorem decodedWord_operand1_eq_conditionName_iff (w : Word12) (address : WordAddr) (pageRec : PageValue)
    (c : CondName) : (decodedWord RULES Config.params w address pageRec).operand1 = some (.conditionName c) ↔
      conditionOf w = some c := by
  rcases decodedWord_cases w address pageRec with ⟨row, hrow, hhit, heq⟩ | ⟨hnone, heq⟩
  · rw [conditionOf_eq_mtch hrow hhit, ← operand1_column_eq_cond_iff c row hrow]
    simp [heq, rowAction, buildOperand_eq_conditionName_iff]
  · simp [heq, unknownOutput, conditionOf_unmatched hnone]

theorem decodedWord_operand2_ne_conditionName (w : Word12) (address : WordAddr) (pageRec : PageValue)
    (c : CondName) : (decodedWord RULES Config.params w address pageRec).operand2 ≠ some (.conditionName c) := by
  rcases decodedWord_cases w address pageRec with ⟨row, hrow, -, heq⟩ | ⟨-, heq⟩
  · simpa [heq, rowAction, buildOperand_eq_conditionName_iff] using operand2_column_ne_cond c row hrow
  · simp [heq, unknownOutput]

end Sys2Proof.Machine
end

section
/-! SUPPORT. The container bytes and the word's fields (10_state.md rules R13 to R16). -/

namespace Sys2Proof

/-- Leading bytes are discarded (rule R13). -/
theorem containerOf_append_pair (b0 b1 : Byte) :
    ∀ before : List Byte, containerOf (before ++ [b0, b1]) = .ok (b0 ++ b1)
  | [] => rfl
  | [_] => rfl
  | _ :: b :: rest => by
    have ih := containerOf_append_pair b0 b1 (b :: rest)
    cases rest <;> exact ih

theorem rawWord_append (b0 b1 : Byte) : rawWord (b0 ++ b1) = b0.extractLsb' 0 4 ++ b1 := by
  apply BitVec.eq_of_getLsbD_eq
  intro i hi
  simp only [rawWord, BitVec.getLsbD_extractLsb', BitVec.getLsbD_append]
  grind

theorem wordOf_eq_of_containerOf {bytes : List Byte} {c : Container} (h : containerOf bytes = .ok c) :
    wordOf bytes = .ok (rawWord c) := by unfold wordOf; rw [h]

/-- The word is the low nibble of the last byte but one and the last byte (rule R14). -/
theorem wordOf_append_pair (before : List Byte) (b0 b1 : Byte) :
    wordOf (before ++ [b0, b1]) = .ok (b0.extractLsb' 0 4 ++ b1) := by
  rw [wordOf_eq_of_containerOf (containerOf_append_pair b0 b1 before), rawWord_append]

/-- One byte is zero-extended on the high side (rule R13). -/
theorem wordOf_singleton (v : Byte) : wordOf [v] = .ok (0x0#4 ++ v) := by
  rw [wordOf_eq_of_containerOf (c := 0x00#8 ++ v) rfl, rawWord_append]
  rfl

/-- The fields are adjoining slices (rule R15). -/
theorem middle_append_lower (w : Word12) : middle w ++ lower w = combinedLow8 w := by
  apply BitVec.eq_of_getLsbD_eq
  intro i hi
  simp only [middle, lower, combinedLow8, BitVec.getLsbD_extractLsb', BitVec.getLsbD_append]
  grind

theorem upper_append_middle_append_lower (w : Word12) : upper w ++ middle w ++ lower w = w := by
  apply BitVec.eq_of_getLsbD_eq
  intro i hi
  simp only [upper, middle, lower, BitVec.getLsbD_extractLsb', BitVec.getLsbD_append]
  grind

section Pair
variable (n : Nibble) (b : Byte)

theorem upper_append : upper (n ++ b) = n := by
  unfold upper
  exact (BitVec.extractLsb'_append_eq_of_le (by decide)).trans BitVec.extractLsb'_eq_self

theorem combinedLow8_append : combinedLow8 (n ++ b) = b := by
  unfold combinedLow8
  exact (BitVec.extractLsb'_append_eq_of_add_le (by decide)).trans BitVec.extractLsb'_eq_self

theorem middle_append : middle (n ++ b) = b.extractLsb' 4 4 := BitVec.extractLsb'_append_eq_of_add_le (by decide)
theorem lower_append : lower (n ++ b) = b.extractLsb' 0 4 := BitVec.extractLsb'_append_eq_of_add_le (by decide)
theorem imm5_append : imm5 (n ++ b) = b.extractLsb' 0 5 := BitVec.extractLsb'_append_eq_of_add_le (by decide)
end Pair

/-- A slice of a slice is a slice. -/
theorem extractLsb'_of_extractLsb' {n start start' len len' : Nat} (x : BitVec n) (h : start' + len' ≤ len) :
    (x.extractLsb' start len).extractLsb' start' len' = x.extractLsb' (start + start') len' := by
  apply BitVec.eq_of_getLsbD_eq
  intro i hi
  have hlen : start' + i < len := by omega
  simp [hlen, Nat.add_assoc]

/-- The sub-fields are halves of a nibble field (rule R16). -/
theorem sel54_eq_middle (w : Word12) : sel54 w = (middle w).extractLsb' 0 2 := by
  rw [sel54, middle, extractLsb'_of_extractLsb' w (by decide)]

theorem sel32_eq_lower (w : Word12) : sel32 w = (lower w).extractLsb' 2 2 := by
  rw [sel32, lower, extractLsb'_of_extractLsb' w (by decide)]

theorem sel10_eq_lower (w : Word12) : sel10 w = (lower w).extractLsb' 0 2 := by
  rw [sel10, lower, extractLsb'_of_extractLsb' w (by decide)]

end Sys2Proof
end

section
/-! SUPPORT. The Page State Index: what an insertion adds and keeps (10_state.md rules R30, R31), what a query answers
(rule R32), and what a call may enter (rule R33). -/

namespace Sys2Proof.Machine

open Sys2Proof.Safety

/-! ### Insertion -/

/-- An insertion removes nothing (rule R30). -/
theorem mem_insertRecord_of_mem {a : WordAddr} {v : PageValue} {r : PageRecord} :
    ∀ {ix : List PageRecord}, r ∈ ix → r ∈ insertRecord a v ix
  | q :: rest, h => by
    unfold insertRecord
    split_ifs
    · exact List.mem_cons_of_mem _ h
    · exact h
    · rcases List.mem_cons.mp h with rfl | hrest
      · exact List.mem_cons_self
      · exact List.mem_cons_of_mem _ (mem_insertRecord_of_mem hrest)

/-- At an address without a record, the record is entered (rule R31). -/
theorem self_mem_insertRecord {a : WordAddr} {v : PageValue} :
    ∀ {ix : List PageRecord}, (∀ r ∈ ix, r.address ≠ a) → (⟨a, v⟩ : PageRecord) ∈ insertRecord a v ix
  | [], _ => by simp [insertRecord]
  | q :: rest, h => by
    obtain ⟨hq, hrest⟩ := List.forall_mem_cons.mp h
    unfold insertRecord
    split_ifs with _ heq
    · exact List.mem_cons_self
    · exact absurd heq.symm hq
    · exact List.mem_cons_of_mem _ (self_mem_insertRecord hrest)

theorem mem_insertRecord_iff {a : WordAddr} {v : PageValue} {ix : List PageRecord}
    (h : ∀ r ∈ ix, r.address ≠ a) (r : PageRecord) : r ∈ insertRecord a v ix ↔ r = ⟨a, v⟩ ∨ r ∈ ix := by
  constructor
  · exact mem_of_mem_insertRecord
  · rintro (rfl | hr)
    · exact self_mem_insertRecord h
    · exact mem_insertRecord_of_mem hr

/-- At an address with a record, the first value stays (rule R31). -/
theorem insertRecord_of_mem {v : PageValue} {r : PageRecord} :
    ∀ {ix : List PageRecord}, IndexWf ix → r ∈ ix → insertRecord r.address v ix = ix
  | q :: rest, hwf, h => by
    obtain ⟨hq, hrest⟩ := List.pairwise_cons.mp hwf
    unfold insertRecord
    rcases List.mem_cons.mp h with rfl | hr
    · simp
    · have hlt := hq r hr
      rw [if_neg (by omega), insertRecord_of_mem hrest hr, ite_self]

/-- A canonical index has one record per address (rule R30). -/
theorem IndexWf.eq_of_address_eq {ix : List PageRecord} (hwf : IndexWf ix) {r r' : PageRecord} (hr : r ∈ ix)
    (hr' : r' ∈ ix) (h : r.address = r'.address) : r = r' := by
  by_contra hne
  have hdistinct : ix.Pairwise fun a b => a.address ≠ b.address :=
    hwf.imp fun hlt heq => hlt.ne (congrArg BitVec.toNat heq)
  have : Std.Symm fun a b : PageRecord => a.address ≠ b.address := ⟨fun _ _ => Ne.symm⟩
  exact hdistinct.forall hr hr' hne h

/-! ### Query -/

/-- Where the search of rule R32 finds nothing, no record lies at or below `x`. -/
theorem greatestAtOrBelow_none {x : WordAddr} : ∀ {ix : List PageRecord}, greatestAtOrBelow x ix = none →
    ∀ r ∈ ix, x.toNat < r.address.toNat
  | [], _ => by simp
  | q :: rest, h => by
    unfold greatestAtOrBelow at h
    split at h
    · split_ifs at h
    · split_ifs at h with hq
      exact List.forall_mem_cons.mpr ⟨by omega, greatestAtOrBelow_none ‹_›⟩

/-- What the search of rule R32 finds governs `x`. -/
theorem greatestAtOrBelow_some {x : WordAddr} : ∀ {ix : List PageRecord} {r : PageRecord},
    greatestAtOrBelow x ix = some r → Governs ix x r
  | q :: rest, r, h => by
    unfold greatestAtOrBelow at h
    split at h
    case h_1 best hbest =>
      obtain ⟨hmem, hle, hmax⟩ := greatestAtOrBelow_some hbest
      split_ifs at h with hq <;> cases h
      · refine ⟨List.mem_cons_self, hq.1, List.forall_mem_cons.mpr ⟨fun _ => le_rfl, fun r' hr' hr'x => ?_⟩⟩
        exact (hmax r' hr' hr'x).trans hq.2.le
      · exact ⟨List.mem_cons_of_mem _ hmem, hle, List.forall_mem_cons.mpr ⟨fun _ => by omega, hmax⟩⟩
    case h_2 hnone =>
      split_ifs at h with hq
      cases h
      refine ⟨List.mem_cons_self, hq, List.forall_mem_cons.mpr ⟨fun _ => le_rfl, fun r' hr' hr'x => ?_⟩⟩
      exact absurd hr'x (by have := greatestAtOrBelow_none hnone r' hr'; omega)

/-- Where some record lies at or below `x`, the query's answer governs `x` (rule R32). -/
theorem query_governs {ix : List PageRecord} {x : WordAddr} (h : ∃ r ∈ ix, r.address.toNat ≤ x.toNat) :
    Governs ix x (query ix x) := by
  obtain ⟨r, hr, hrx⟩ := h
  cases hfind : greatestAtOrBelow x ix with
  | some best => simpa [query, hfind] using greatestAtOrBelow_some hfind
  | none => exact absurd hrx (by have := greatestAtOrBelow_none hfind r hr; omega)

/-- Where no record lies at or below `x`, the query answers the default record (rule R32). -/
theorem query_eq_default {ix : List PageRecord} {x : WordAddr} (h : ∀ r ∈ ix, x.toNat < r.address.toNat) :
    query ix x = defaultRecord := by
  cases hfind : greatestAtOrBelow x ix with
  | some best =>
    obtain ⟨hmem, hle, -⟩ := greatestAtOrBelow_some hfind
    exact absurd hle (by have := h best hmem; omega)
  | none => simp [query, hfind]

/-! ### What a call enters -/

theorem boundPageRec_finished {s : State} (h : s.phase = .finished) :
    boundPageRec s = (query s.index s.address).pageValue := by simp [boundPageRec, h]

/-- A call removes no record (rule R30). -/
theorem mem_indexAfterCall_of_mem {s : State} {r : PageRecord} (h : r ∈ s.index) : r ∈ indexAfterCall s := by
  unfold indexAfterCall
  split
  · exact mem_insertRecord_of_mem h
  · exact h

/-- While the index is built, an output with a page-setting payload enters its record. -/
theorem State.answer_index_of_payload {s : State} {d : DecodedInstruction} {v : PageValue} (hs : s.phase = .building)
    (hd : psetPayload d = some v) : (s.answer d).index = insertRecord s.address v s.index := by
  simp [State.answer, indexAfterCall, hs, hd]

theorem State.answer_index_of_no_payload {s : State} {d : DecodedInstruction} (hd : psetPayload d = none) :
    (s.answer d).index = s.index := by
  simp [State.answer, indexAfterCall, hd]

/-- A finished index is read-only (rule R33). -/
theorem State.answer_index_finished {s : State} (d : DecodedInstruction) (hs : s.phase = .finished) :
    (s.answer d).index = s.index := indexAfterCall_finished (s := s.bindPageRec.withResult d) hs

theorem State.answer_indexWf {s : State} (d : DecodedInstruction) (h : IndexWf s.index) :
    IndexWf (s.answer d).index := indexAfterCall_wf (s := s.bindPageRec.withResult d) h

/-- The page value of a page-setting instruction. -/
def pageOf : Instr → Option PageValue
  | .pset p => some p
  | _ => none

theorem pageOf_eq_some_iff {i : Instr} {p : PageValue} : pageOf i = some p ↔ i = .pset p := by
  cases i <;> simp [pageOf]

theorem psetPayload_immPage (p : PageValue) (edges : List BranchEdge) (comment : Option Comment) :
    psetPayload ⟨.PSET, some (immPage p), none, edges, comment⟩ = some p := by
  simp only [psetPayload, immPage, Option.some.injEq]
  exact BitVec.setWidth_setWidth_of_le p (by decide)

/-- The environment reads off an output the page value of the instruction, and none where it is no `PSET` (rule R293). -/
theorem psetPayload_outputOf (i : Instr) (address : WordAddr) (pageRec : PageValue) :
    psetPayload (outputOf i address pageRec) = pageOf i := by
  cases i with
  | pset p => exact psetPayload_immPage p [] none
  | _ => rfl

end Sys2Proof.Machine
end

section
/-! SUPPORT. The pre-pass (70_reset_and_hazards.md rule R293): one call enters its own `PSET`, and a sweep those of its
image. -/

namespace Sys2Proof.Machine

open Sys2Proof.Safety

/-- A pre-pass call at an address without a record enters the record of the `PSET` it decodes, and nothing else (rule
R33). -/
theorem mem_answer_index_building {s : State} {i : Instr} {address : WordAddr} {pageRec : PageValue}
    (hs : s.phase = .building) (hfree : ∀ r ∈ s.index, r.address ≠ s.address) (r : PageRecord) :
    r ∈ (s.answer (outputOf i address pageRec)).index ↔
      (r.address = s.address ∧ i = .pset r.pageValue) ∨ r ∈ s.index := by
  have hpayload := psetPayload_outputOf i address pageRec
  cases hp : pageOf i with
  | none =>
    have hne : i ≠ .pset r.pageValue := by
      rw [ne_eq, ← pageOf_eq_some_iff, hp]
      simp
    simp [State.answer_index_of_no_payload (hpayload.trans hp), hne]
  | some p =>
    rw [State.answer_index_of_payload hs (hpayload.trans hp), mem_insertRecord_iff hfree, pageOf_eq_some_iff.mp hp]
    obtain ⟨a, v⟩ := r
    simp [eq_comm]

theorem imageWf_cons {a : WordAddr} {bytes : List Byte} {rest : Image} (h : ImageWf ((a, bytes) :: rest)) :
    bytes ≠ [] ∧ (∀ e ∈ rest, e.1 ≠ a) ∧ ImageWf rest := by
  obtain ⟨hnodup, hbytes⟩ := h
  obtain ⟨ha, hrest⟩ := List.nodup_cons.mp hnodup
  obtain ⟨hne, hbytes⟩ := List.forall_mem_cons.mp hbytes
  exact ⟨hne, fun e he hea => ha (List.mem_map.mpr ⟨e, he, hea⟩), hrest, hbytes⟩

theorem holdsPset_cons_iff {a a' : WordAddr} {bytes : List Byte} {rest : Image} {p : PageValue} :
    HoldsPset ((a, bytes) :: rest) a' p ↔ (a' = a ∧ decode bytes = .ok (.pset p)) ∨ HoldsPset rest a' p := by
  simp [HoldsPset, or_and_right, exists_or, and_assoc]

/-- A sweep over addresses without records answers, keeps the index canonical, and enters exactly the records of the
`PSET`s of its image (rules R33, R293 step 2). -/
theorem callAll_spec : ∀ {image : Image} {s : State}, s.phase = .building → IndexWf s.index → ImageWf image →
    (∀ r ∈ s.index, ∀ e ∈ image, r.address ≠ e.1) → ∃ t, callAll image s = .next t ∧ IndexWf t.index ∧
      ∀ r, r ∈ t.index ↔ HoldsPset image r.address r.pageValue ∨ r ∈ s.index
  | [], s, _, hwf, _, _ => ⟨s, rfl, hwf, by simp [HoldsPset]⟩
  | (a, bytes) :: rest, s, hs, hwf, himage, hfree => by
    obtain ⟨hne, hrest, himage⟩ := imageWf_cons himage
    obtain ⟨i, hi⟩ := decode_ok_of_ne_nil hne
    have hfree_a : ∀ r ∈ s.index, r.address ≠ a := fun r hr => hfree r hr _ List.mem_cons_self
    have hstep := step_of_decode (s := s.present bytes a) hi
    set t := (s.present bytes a).answer (outputOf i a (boundPageRec (s.present bytes a))) with ht
    have ht_mem (r : PageRecord) : r ∈ t.index ↔ (r.address = a ∧ i = .pset r.pageValue) ∨ r ∈ s.index :=
      mem_answer_index_building (s := s.present bytes a) hs hfree_a r
    have ht_free : ∀ r ∈ t.index, ∀ e ∈ rest, r.address ≠ e.1 := by
      intro r hr e he
      rcases (ht_mem r).mp hr with ⟨hra, -⟩ | hr
      · exact hra ▸ (hrest e he).symm
      · exact hfree r hr e (List.mem_cons_of_mem _ he)
    obtain ⟨u, hu, hu_wf, hu_mem⟩ :=
      callAll_spec (s := t) hs (State.answer_indexWf (s := s.present bytes a) _ hwf) himage ht_free
    refine ⟨u, by rw [callAll, hstep]; exact hu, hu_wf, fun r => ?_⟩
    rw [hu_mem, ht_mem, holdsPset_cons_iff, hi, Except.ok.injEq]
    tauto

/-- Booting a well-formed image answers a finished canonical index of exactly its `PSET`s (rule R293). -/
theorem boot_spec {image : Image} (himage : ImageWf image) (s : State) : ∃ t, boot image s = .next t ∧
    t.phase = .finished ∧ IndexWf t.index ∧ ∀ r, r ∈ t.index ↔ HoldsPset image r.address r.pageValue := by
  obtain ⟨t, ht, hwf, hmem⟩ := callAll_spec (s := s.startIndex) rfl List.Pairwise.nil himage (by simp)
  refine ⟨t.finishIndex, by rw [boot, ht], rfl, hwf, fun r => ?_⟩
  simpa using hmem r

/-- On a finished index the two-argument call is a step at the presented bytes and address (rule R29). -/
theorem decodeSrc_finished {bytes : List Byte} {a : WordAddr} {s : State} (h : s.phase = .finished) :
    decodeSrc bytes a s = step (s.present bytes a) := by simp [decodeSrc, h]

/-- A finished index is read-only (rule R33). -/
theorem step_index_finished {s t : State} (hs : s.phase = .finished) (h : step s = .next t) : t.index = s.index := by
  obtain ⟨d, -, rfl⟩ := step_next h
  exact State.answer_index_finished d hs

end Sys2Proof.Machine
end

section
/-! SUPPORT. The statements of the family 10_state.md, settled from the laws above. -/

namespace Sys2Proof.Proofs

open Sys2Proof Sys2Proof.Machine Sys2Proof.Safety

/-- Settles O15, from the word of two container bytes: each field is a slice of one byte. -/
theorem fieldsAreTheSlicesOfTheWord : Obligations.FieldsAreTheSlicesOfTheWord := by
  intro b0 b1 w hw
  have hpair : wordOf [b0, b1] = .ok (b0.extractLsb' 0 4 ++ b1) := wordOf_append_pair [] b0 b1
  obtain rfl : b0.extractLsb' 0 4 ++ b1 = w := by simpa [hpair] using hw
  refine ⟨upper_append _ _, middle_append _ _, lower_append _ _, combinedLow8_append _ _, ?_, imm5_append _ _,
    upper_append_middle_append_lower _, sel54_eq_middle _, sel32_eq_lower _, sel10_eq_lower _, rfl⟩
  rw [middle_append_lower, combinedLow8_append]

/-- Settles O14, by the length of the input: none, one byte, or two and any bytes before them. -/
theorem wordIsTheLowTwelveBitsOfTheLastTwoBytes : Obligations.WordIsTheLowTwelveBitsOfTheLastTwoBytes :=
  ⟨⟨rfl, rfl⟩, fun v => ⟨rfl, wordOf_singleton v⟩,
    fun before b0 b1 => ⟨containerOf_append_pair b0 b1 before, wordOf_append_pair before b0 b1⟩, fun _ _ h => h⟩

/-- Settles O17: where there are bytes there is a word, and every word has an output. -/
theorem onlyEmptyInputFails : Obligations.OnlyEmptyInputFails := by
  refine ⟨fun s => step_of_nil, fun s hne => ?_, fun _ _ _ => portBlock_of_carries_nil⟩
  obtain ⟨w, hw⟩ := wordOf_ok_of_ne_nil hne
  exact ⟨_, step_of_wordOf hw, rfl⟩

/-- Settles O18: a step is the three-input block at the bound page value. -/
theorem resultDependsOnTheInputsAlone : Obligations.ResultDependsOnTheInputsAlone := by
  intro s t hbytes haddress hpage
  refine ⟨fun s' hs => ?_, fun f hf => ?_, step_ne_refused s⟩
  · obtain ⟨d, hd, rfl⟩ := step_next hs
    rw [hbytes, haddress, hpage] at hd
    exact ⟨t.answer d, step_of_decodeCall hd, rfl⟩
  · have hnil := step_fault hf
    rw [← hf, step_of_nil hnil, step_of_nil (hbytes ▸ hnil)]

/-- Settles O37, by the edge class of the word. -/
theorem edgeListsFollowTheWord : Obligations.EdgeListsFollowTheWord := by
  intro s w hw
  refine ⟨_, _, step_of_wordOf hw, rfl, ?_, ?_⟩
  · rw [decodedWord_branchEdges, edgesByWord_eq]
  · rw [decodedWord_branchEdges, edgesOf_has_falseBranch_iff, edgeClassOf_eq_jpcc_iff]

/-- Settles O38, by the column of comments: `RETS` is the one row that sets it, and matches one word. -/
theorem commentMarksReturnAndSkipAlone : Obligations.CommentMarksReturnAndSkipAlone := by
  intro s w hw
  refine ⟨_, _, step_of_wordOf hw, rfl, decodedWord_comment w _ _, ?_⟩
  rw [decodedWord_comment, decodedWord_mnemonic_eq_RETS_iff]
  split_ifs with h
  · exact iff_of_true rfl h
  · exact iff_of_false Bool.false_ne_true h

/-- Settles O39, by the column of operands and the upper nibble every row fixes. -/
theorem conditionNamesFollowTheUpperNibble : Obligations.ConditionNamesFollowTheUpperNibble := by
  intro s w hw
  refine ⟨_, _, step_of_wordOf hw, rfl, fun c => ?_, decodedWord_operand2_ne_conditionName w _ _⟩
  rw [decodedWord_operand1_eq_conditionName_iff, conditionOf_eq_some_iff]

/-- Settles O44, by induction on the index. -/
theorem insertKeepsTheFirstValueAtAnAddress : Obligations.InsertKeepsTheFirstValueAtAnAddress := by
  intro ix a v hwf
  refine ⟨?_, mem_insertRecord_iff⟩
  rintro ⟨r, hr, rfl⟩
  exact insertRecord_of_mem hwf hr

/-- Settles O45, by the search over the index. -/
theorem queryAnswersTheGreatestAddressAtOrBelow : Obligations.QueryAnswersTheGreatestAddressAtOrBelow := by
  intro ix x _
  refine ⟨query_governs, fun h => ?_⟩
  rw [query_eq_default h]
  rfl

/-- Settles O46: a call only inserts, and insertion keeps the canonical form. -/
theorem indexIsAppendOnlyWithOneRecordPerAddress : Obligations.IndexIsAppendOnlyWithOneRecordPerAddress := by
  intro s t hwf h
  obtain ⟨d, -, rfl⟩ := step_next h
  exact ⟨fun r hr => mem_indexAfterCall_of_mem (s := s.bindPageRec.withResult d) hr,
    fun r hr r' hr' => (State.answer_indexWf d hwf).eq_of_address_eq hr hr'⟩

/-- Settles O48, by induction on the sweep of the image. -/
theorem bootRecordsExactlyThePageSettingWords : Obligations.BootRecordsExactlyThePageSettingWords := by
  intro image s himage
  obtain ⟨t, ht, hphase, hwf, hmem⟩ := boot_spec himage s
  refine ⟨t, ht, hphase, hwf, fun a p => hmem ⟨a, p⟩, fun bytes a u hu => ?_⟩
  exact step_index_finished (s := t.present bytes a) hphase (decodeSrc_next hu).2

/-- Settles O51, by the binding of `page_rec` on a finished index. -/
theorem twoArgumentCallBindsTheQueriedPage : Obligations.TwoArgumentCallBindsTheQueriedPage := by
  refine ⟨fun s bytes a hs => ?_, fun s t hs h => ?_⟩
  · rw [decodeSrc_finished hs]
    have hbound : boundPageRec (s.present bytes a) = (query s.index a).pageValue := boundPageRec_finished hs
    split
    case h_1 d hd =>
      rw [← hbound] at hd ⊢
      exact ⟨_, step_of_decodeCall (s := s.present bytes a) hd, rfl, rfl⟩
    case h_2 e he => exact step_of_nil (decodeCall_error he)
  · obtain ⟨d, -, rfl⟩ := step_next h
    exact boundPageRec_finished hs

end Sys2Proof.Proofs
end

section
/-! SUPPORT. The order of the rule list (30_encoding.md rules R67, R69), the choice of a row (rule R68), the words no row
hits (rule R80) and the operands of a selector field (rule R63). -/

namespace Sys2Proof.Machine

open Sys2Proof.Safety

/-! ### The order of the rule list -/

/-- Row `a` stands before row `b`: the heavier mask first, ties by ascending match (rule R69). -/
def StandsBefore (a b : Row) : Prop :=
  maskWeight b.mask < maskWeight a.mask ∨ (maskWeight a.mask = maskWeight b.mask ∧ a.mtch.toNat < b.mtch.toNat)

theorem StandsBefore.trans {a b c : Row} (hab : StandsBefore a b) (hbc : StandsBefore b c) : StandsBefore a c := by
  unfold StandsBefore at *
  omega

/-- Each row stands before the next, within each part of the list and from part to part. -/
theorem RULES_isChain_standsBefore : RULES.IsChain StandsBefore := by
  unfold StandsBefore
  simp only [RULES, List.isChain_append]
  and_intros <;> decide

theorem RULES_pairwise_standsBefore : RULES.Pairwise StandsBefore :=
  have : IsTrans Row StandsBefore := ⟨fun _ _ _ => StandsBefore.trans⟩
  List.isChain_iff_pairwise.mp RULES_isChain_standsBefore

/-- The mask weights, row by row, stand in six blocks. -/
theorem maskWeight_column_eq : RULES.map (fun row => maskWeight row.mask) = .replicate 37 12 ++ (.replicate 24 10 ++
    (.replicate 30 8 ++ (.replicate 1 7 ++ (.replicate 9 6 ++ .replicate 11 4)))) := by decide

theorem dedup_replicate_append {k a : Nat} {l : List Nat} (hk : k ≠ 0) (ha : a ∉ l) :
    (List.replicate k a ++ l).dedup = a :: l.dedup := by
  have hdisjoint : (List.replicate k a).Disjoint l := fun x hx hl => ha (List.eq_of_mem_replicate hx ▸ hl)
  rw [hdisjoint.dedup_append, List.replicate_dedup hk, List.singleton_append]

/-- The weights that occur (rule R69): each block's weight is in no later block. -/
theorem maskWeight_column_dedup : (RULES.map fun row => maskWeight row.mask).dedup = [12, 10, 8, 7, 6, 4] := by
  rw [maskWeight_column_eq]
  simp [-List.reduceReplicate, dedup_replicate_append, List.replicate_dedup]

/-- Weight 10 is that of the rows of two masks (rule R69). -/
theorem maskWeight_eq_ten_iff : ∀ row ∈ RULES, maskWeight row.mask = 10 ↔ row.mask = 0xFCF ∨ row.mask = 0xFFC := by
  decide

/-- No row asks for a bit outside its mask (rule R67). -/
theorem mtch_and_not_mask_of_mem_RULES : ∀ row ∈ RULES, row.mtch &&& ~~~row.mask = 0 := by decide

theorem prio_column_eq : RULES.map (fun row => row.prio) = List.range' 1 112 := by decide

/-! ### The choice of a row -/

/-- A row decides a word exactly when it hits it and no row before it does (rule R68). -/
theorem decodeRow_eq_some_iff {rules : List Row} {w : Word12} {row : Row} : decodeRow rules w = some row ↔
    row.hits w = true ∧ ∃ before after, rules = before ++ row :: after ∧ ∀ r ∈ before, r.hits w = false := by
  simp [decodeRow, List.find?_eq_some_iff_append]

/-- No row decides a word exactly when no row hits it. -/
theorem decodeRow_eq_none_iff {rules : List Row} {w : Word12} :
    decodeRow rules w = none ↔ ∀ r ∈ rules, r.hits w = false := by simp [decodeRow]

theorem decodeWordWith_of_some {rules : List Row} {w : Word12} {row : Row} (h : decodeRow rules w = some row) :
    decodeWordWith rules w = row.build w := by simp [decodeWordWith, h]

theorem decodeWordWith_of_none {rules : List Row} {w : Word12} (h : decodeRow rules w = none) :
    decodeWordWith rules w = .unknown w := by simp [decodeWordWith, h]

/-! ### Words no row hits -/

/-- The block outputs `UNKNOWN` for a word that no row hits (rule R80). -/
theorem decodedWord_of_unmatched {w : Word12} (h : ∀ row ∈ RULES, row.hits w = false) (address : WordAddr)
    (pageRec : PageValue) : decodedWord RULES Config.params w address pageRec = unknownOutput := by
  simp [decodedWord, decodeRow_eq_none_iff.mpr h]

/-- A call whose output sets no page only binds `page_rec` and records the output (rule R33). -/
theorem State.answer_of_no_payload {s : State} {d : DecodedInstruction} (hd : psetPayload d = none) :
    s.answer d = s.bindPageRec.withResult d := by
  have hindex : indexAfterCall (s.bindPageRec.withResult d) = s.index := State.answer_index_of_no_payload hd
  rw [State.answer, State.recordPset, hindex]
  rfl

/-- A call with a word that no row hits answers `UNKNOWN` (rule R80). -/
theorem step_of_unmatched {s : State} {w : Word12} (hw : wordOf s.bytes = .ok w)
    (h : ∀ row ∈ RULES, row.hits w = false) : step s = .next (s.bindPageRec.withResult unknownOutput) := by
  rw [step_of_wordOf hw, decodedWord_of_unmatched h, State.answer_of_no_payload rfl]

/-! ### Operands -/

/-- The operand of a selector field, by the field's value (rule R63). -/
theorem selOperand_ofBits (b : BitVec 2) : selOperand (Sel.ofBits b) =
    match b.toNat with
    | 0 => .register .A
    | 1 => .register .B
    | 2 => .registerIndirect .X
    | _ => .registerIndirect .Y := by
  unfold Sel.ofBits
  split <;> simp [selOperand, *]

end Sys2Proof.Machine
end

section
/-! SUPPORT. The statements of the family 30_encoding.md on the rule list and the operand builders, settled from the laws
above. -/

namespace Sys2Proof.Proofs

open Sys2Proof Sys2Proof.Machine Sys2Proof.Safety

/-- Settles O12: no row decides the word, and `UNKNOWN` sets no page. -/
theorem unknownIsAResultAndNotAnError : Obligations.UnknownIsAResultAndNotAnError :=
  ⟨fun _ _ => rfl, fun _ _ hw h => step_of_unmatched hw h, rfl⟩

/-- Settles O6, from the columns of the rule list; the order is a chain of neighbours under a transitive relation. -/
theorem rulesStandInOrderOfMaskWeight : Obligations.RulesStandInOrderOfMaskWeight :=
  ⟨mtch_and_not_mask_of_mem_RULES, fun _ _ _ => hits_iff, RULES_pairwise_standsBefore, maskWeight_column_dedup,
    maskWeight_eq_ten_iff, prio_column_eq⟩

/-- Settles O7, from what the search for a row finds. -/
theorem firstMatchingRowWins : Obligations.FirstMatchingRowWins := by
  refine fun rules w => ⟨fun before after row hrules hhit hbefore => ?_, fun hnone => ?_⟩
  · have hrow : decodeRow rules w = some row := decodeRow_eq_some_iff.mpr ⟨hhit, before, after, hrules, hbefore⟩
    exact ⟨hrow, decodeWordWith_of_some hrow⟩
  · have hrow : decodeRow rules w = none := decodeRow_eq_none_iff.mpr hnone
    exact ⟨hrow, decodeWordWith_of_none hrow⟩

/-- Settles O34, builder by builder; the selectors by the value of their field. -/
theorem operandBuildersZeroExtend : Obligations.OperandBuildersZeroExtend := by
  refine ⟨by decide, fun w f => ?_, fun _ => ⟨rfl, rfl, rfl⟩, fun _ => rfl, fun _ => rfl,
    fun _ _ _ _ => ⟨rfl, rfl, rfl⟩⟩
  cases f with
  | sel54 => exact selOperand_ofBits (sel54 w)
  | sel32 => exact selOperand_ofBits (sel32 w)
  | sel10 => exact selOperand_ofBits (sel10 w)

end Sys2Proof.Proofs
end

section
/-! SUPPORT. Which row a word of a row's own encoding reaches (30_encoding.md rules R68, R71), and what the branch rows
output, with their targets as bit fields (40_branch.md rules R100 to R103). -/

namespace Sys2Proof.Machine

open Sys2Proof.Safety Sys2Proof.Laws

/-! ### Rows that no earlier row takes a word from -/

/-- The fixed bits of the two rows agree where both fix them. -/
def Compatible (a b : RowColumns) : Prop := a.mtch &&& b.mask = b.mtch &&& a.mask

/-- Two rows that hit a common word are compatible: both sides are the bits of the word that both rows fix. -/
theorem compatible_of_hits {a b : RowColumns} {w : Word12} (ha : a.hits w = true) (hb : b.hits w = true) :
    Compatible a b := by
  rw [Compatible, ← hits_iff.mp ha, ← hits_iff.mp hb, BitVec.and_assoc, BitVec.and_assoc, BitVec.and_comm a.mask]

/-- The overlap table names every two compatible rows (rule R71). -/
theorem RULES_pairwise_overlaps : RULES.Pairwise fun a b =>
    Compatible a.toRowColumns b.toRowColumns → (a.prio, b.prio) ∈ overlaps := by
  unfold Compatible
  decide

/-- A row decides a word it hits, if the rows that the overlap table puts before it do not hit the word. -/
theorem decodeWord_of_hits {row : Row} {w : Word12} (hrow : row ∈ RULES) (hhit : row.hits w = true)
    (hfirst : ∀ r ∈ RULES, (r.prio, row.prio) ∈ overlaps → r.hits w = false) : decodeWord w = row.build w := by
  obtain ⟨before, after, hsplit⟩ := List.append_of_mem hrow
  have hpairs := RULES_pairwise_overlaps
  rw [hsplit, List.pairwise_append] at hpairs
  obtain ⟨-, -, hpairs⟩ := hpairs
  refine decodeWordWith_of_some (decodeRow_eq_some_iff.mpr ⟨hhit, before, after, hsplit, fun r hr => ?_⟩)
  by_contra hr_hit
  rw [Bool.not_eq_false] at hr_hit
  have hoverlap := hpairs r hr row List.mem_cons_self (compatible_of_hits hr_hit hhit)
  have hr_mem : r ∈ RULES := hsplit ▸ List.mem_append_left _ hr
  simp [hfirst r hr_mem hoverlap] at hr_hit

/-- A row that is second in no pair of the overlap table decides every word it hits. -/
theorem decodeWord_of_row (k : Nat) {w : Word12} (hk : k < RULES.length)
    (halone : RULES[k].prio ∉ overlaps.map Prod.snd) (hhit : RULES[k].hits w = true) :
    decodeWord w = RULES[k].build w :=
  decodeWord_of_hits (List.getElem_mem hk) hhit fun _ _ hpair => absurd (List.mem_map_of_mem hpair) halone

/-- The same for a row that builds its instruction from the low byte alone (format `S8`). -/
theorem decodeWord_of_byteRow (k : Nat) {build : Byte → Instr} {n : Nibble} {b : Byte} (hk : k < RULES.length)
    (halone : RULES[k].prio ∉ overlaps.map Prod.snd) (hhit : RULES[k].hits (n ++ b) = true)
    (hbuild : RULES[k].build = build ∘ combinedLow8) : decodeWord (n ++ b) = build b := by
  rw [decodeWord_of_row k hk halone hhit, hbuild, Function.comp_apply, combinedLow8_append]

/-- Words of upper nibble 0 are `JP s` (rule R105). -/
theorem decodeWord_jp (step : Byte) : decodeWord (0b0000#4 ++ step) = .jp step :=
  decodeWord_of_byteRow 101 (by decide) (by decide) (MatchesOwnRow.jp step) rfl

/-- A `PSET p` word carries its page in the five bits of `imm5` (rules R15, R104). -/
theorem decodeWord_pset (p : PageValue) : decodeWord (0b1110010#7 ++ p) = .pset p := by
  have himm : imm5 (0b1110010#7 ++ p) = p :=
    (BitVec.extractLsb'_append_eq_of_add_le (by decide)).trans BitVec.extractLsb'_eq_self
  exact (decodeWord_of_row 91 (by decide) (by decide) (MatchesOwnRow.pset p)).trans (congrArg Instr.pset himm)

/-! ### Outputs of the branch rows -/

/-- `CallTarget` at this spec's `CALL_PAGE_SOURCE` (rule R101). -/
theorem callTarget_params_eq_mask (address : WordAddr) (pageRec : PageValue) (step : Byte) :
    callTarget Config.params.callPageSource address pageRec step = (address &&& 0x1F00) ||| step.setWidth 32 :=
  callTarget_address_eq_mask address pageRec step

/-- `CalzTarget` at this spec's `CALZ_PAGE` (rule R102). -/
theorem calzTarget_params_eq_mask (address : WordAddr) (step : Byte) :
    calzTarget Config.params.calzPage address step = (address &&& 0x1000) ||| step.setWidth 32 :=
  calzTarget_zero_eq_mask address step

theorem jpEdges_eq (pageRec : PageValue) (step : Byte) :
    jpEdges pageRec step = [⟨.unconditional, some (0#19 ++ pageRec ++ step)⟩] := by
  rw [jpEdges, jpTarget_eq_append]

theorem jpccEdges_eq (address : WordAddr) (pageRec : PageValue) (step : Byte) :
    jpccEdges address pageRec step =
      [⟨.trueBranch, some (0#19 ++ pageRec ++ step)⟩, ⟨.falseBranch, some (address + 1)⟩] := by
  rw [jpccEdges, jpTarget_eq_append, nextAddr]

theorem callEdges_eq (address : WordAddr) (pageRec : PageValue) (step : Byte) :
    callEdges Config.params address pageRec step =
      [⟨.callDestination, some ((address &&& 0x1F00) ||| step.setWidth 32)⟩] := by
  rw [callEdges, callTarget_params_eq_mask]

theorem calzEdges_eq (address : WordAddr) (step : Byte) :
    calzEdges Config.params address step =
      [⟨.callDestination, some ((address &&& 0x1000) ||| step.setWidth 32)⟩] := by
  rw [calzEdges, calzTarget_params_eq_mask]

/-- What the four conditional jumps record, each under its condition (rules R106 to R109). -/
theorem emit_jpcc (c : CondName) (step : Byte) (s : State) :
    emit s ⟨.JP, some (.conditionName c), some (addrStep step), jpccEdges s.address s.pageRec step, none⟩ =
      .next { s with result := some ⟨.JP, some (.conditionName c), some (.address (step.setWidth 16)),
        [⟨.trueBranch, some (0#19 ++ s.pageRec ++ step)⟩, ⟨.falseBranch, some (s.address + 1)⟩], none⟩ } := by
  rw [jpccEdges_eq]
  rfl

theorem exec_jp (step : Byte) (s : State) : exec (.jp step) s = .next { s with
    result := some ⟨.JP, some (.address (step.setWidth 16)), none,
      [⟨.unconditional, some (0#19 ++ s.pageRec ++ step)⟩], none⟩ } := by
  rw [← jpEdges_eq]
  rfl

theorem exec_call (step : Byte) (s : State) : exec (.call step) s = .next { s with
    result := some ⟨.CALL, some (.address (step.setWidth 16)), none,
      [⟨.callDestination, some ((s.address &&& 0x1F00) ||| step.setWidth 32)⟩], none⟩ } := by
  rw [← callEdges_eq s.address s.pageRec]
  rfl

theorem exec_calz (step : Byte) (s : State) : exec (.calz step) s = .next { s with
    result := some ⟨.CALZ, some (.address (step.setWidth 16)), none,
      [⟨.callDestination, some ((s.address &&& 0x1000) ||| step.setWidth 32)⟩], none⟩ } := by
  rw [← calzEdges_eq]
  rfl

/-! ### Targets as numbers -/

theorem toNat_append_eq_mul_add {m n : Nat} (x : BitVec m) (y : BitVec n) :
    (x ++ y).toNat = x.toNat * 2 ^ n + y.toNat := by
  rw [BitVec.toNat_append, ← Nat.shiftLeft_add_eq_or_of_lt y.isLt, Nat.shiftLeft_eq]

/-- The bank bit and the page nibble adjoin (rule R28). -/
theorem bankBit_append_pageNibble (pageRec : PageValue) : bankBit pageRec ++ pageNibble pageRec = pageRec := by
  rw [bankBit, pageNibble, BitVec.extractLsb'_append_extractLsb'_eq_extractLsb' (by decide)]
  exact BitVec.extractLsb'_eq_self

/-- The fields of `JpTarget` are disjoint, so they add up (rule R100). -/
theorem jpTarget_toNat (pageRec : PageValue) (step : Byte) : (jpTarget pageRec step).toNat =
    (bankBit pageRec).toNat * 4096 + (pageNibble pageRec).toNat * 256 + step.toNat := by
  have hpage := congrArg BitVec.toNat (bankBit_append_pageNibble pageRec)
  rw [toNat_append_eq_mul_add] at hpage
  rw [jpTarget_eq_append, toNat_append_eq_mul_add, toNat_append_eq_mul_add, BitVec.toNat_zero]
  omega

/-- `CallTarget` with the page of the page record: bank bit of the address, page nibble and step (rule R101). -/
theorem callTarget_pageRec_eq_mask (address : WordAddr) (pageRec : PageValue) (step : Byte) :
    callTarget .pageRec address pageRec step =
      (address &&& 0x1000#32) ||| ((pageRec.extractLsb' 0 4).setWidth 32 <<< 8) ||| step.setWidth 32 := by
  have hbank : (address.extractLsb' 12 1).setWidth 32 <<< 12 = address &&& 0x1000#32 := by
    apply BitVec.eq_of_getLsbD_eq
    intro i hi
    interval_cases i <;> simp
  rw [callTarget, assembleTarget, hbank, pageNibble]

end Sys2Proof.Machine
end

section
/-! SUPPORT. The statements of the family 40_branch.md, settled from the laws above. -/

namespace Sys2Proof.Proofs

open Sys2Proof Sys2Proof.Machine Sys2Proof.Laws

/-- Settles O35: the target is three adjoining fields. -/
theorem jumpTargetIsBankPageAndStep : Obligations.JumpTargetIsBankPageAndStep := fun pageRec disp =>
  ⟨jpTarget_eq_append pageRec disp, jpTarget_toNat pageRec disp⟩

/-- Settles O36: each target is a mask of the address under the parameters, and the next address is a sum of width 32. -/
theorem callTargetsAndNextAddressComeFromTheAddress : Obligations.CallTargetsAndNextAddressComeFromTheAddress := by
  exact ⟨fun address pageRec disp => ⟨callTarget_params_eq_mask address pageRec disp,
    callTarget_pageRec_eq_mask address pageRec disp, calzTarget_params_eq_mask address disp⟩,
    fun address => BitVec.toNat_add address 1, rfl, rfl⟩

/-- Settles O21: no row here is second in the overlap table, so each decides every word of its encoding; the four
conditional jumps differ in their condition name alone. -/
theorem pageSetAndJumpRowsDecodeAndRun : Obligations.PageSetAndJumpRowsDecodeAndRun := by
  refine ⟨fun p => ⟨decodeWord_pset p, fun s => rfl⟩, fun disp => ⟨decodeWord_jp disp, exec_jp disp⟩,
    fun disp => ⟨?jpC, emit_jpcc .C disp⟩, fun disp => ⟨?jpNC, emit_jpcc .NC disp⟩,
    fun disp => ⟨?jpZ, emit_jpcc .Z disp⟩, fun disp => ⟨?jpNZ, emit_jpcc .NZ disp⟩,
    fun v => decode_ok_iff.mpr ⟨_, wordOf_singleton v, decodeWord_jp v⟩⟩
  case jpC => exact decodeWord_of_byteRow 103 (by decide) (by decide) (MatchesOwnRow.jpC disp) rfl
  case jpNC => exact decodeWord_of_byteRow 104 (by decide) (by decide) (MatchesOwnRow.jpNC disp) rfl
  case jpZ => exact decodeWord_of_byteRow 107 (by decide) (by decide) (MatchesOwnRow.jpZ disp) rfl
  case jpNZ => exact decodeWord_of_byteRow 108 (by decide) (by decide) (MatchesOwnRow.jpNZ disp) rfl

/-- Settles O22: no row here is second in the overlap table either; the indirect jump and the returns have no target,
and the calls take theirs from the address. -/
theorem indirectCallAndReturnRowsDecodeAndRun : Obligations.IndirectCallAndReturnRowsDecodeAndRun := by
  refine ⟨⟨?jpba, fun s => rfl⟩, fun disp => ⟨?call, exec_call disp⟩, fun disp => ⟨?calz, exec_calz disp⟩,
    ⟨?ret, fun s => rfl⟩, ⟨?rets, fun s => rfl⟩, fun l => ⟨?retd, fun s => rfl⟩⟩
  case jpba => exact decodeWord_of_row 32 (by decide) (by decide) MatchesOwnRow.jpba
  case call => exact decodeWord_of_byteRow 105 (by decide) (by decide) (MatchesOwnRow.call disp) rfl
  case calz => exact decodeWord_of_byteRow 106 (by decide) (by decide) (MatchesOwnRow.calz disp) rfl
  case ret => exact decodeWord_of_row 31 (by decide) (by decide) MatchesOwnRow.ret
  case rets => exact decodeWord_of_row 30 (by decide) (by decide) MatchesOwnRow.rets
  case retd => exact decodeWord_of_byteRow 102 (by decide) (by decide) (MatchesOwnRow.retd l) rfl

end Sys2Proof.Proofs
end

section
/-! SUPPORT. The statement of the family 41_system.md, settled from the laws above. -/

namespace Sys2Proof.Machine

/-- A word that no row hits decodes to `UNKNOWN` with that word (rule R80). -/
theorem decodeWord_of_unmatched {w : Word12} (h : RULES.any (fun row => row.hits w) = false) :
    decodeWord w = .unknown w :=
  decodeWordWith_of_none (decodeRow_eq_none_iff.mpr (by simpa using h))

/-- No row hits a word that rules R120 to R123 leave between theirs. -/
theorem any_hits_of_systemGap : ∀ w ∈ ([0xFFA, 0xFFC, 0xFFD, 0xFFE] : List Word12),
    RULES.any (fun row => row.hits w) = false := by decide

end Sys2Proof.Machine

namespace Sys2Proof.Proofs

open Sys2Proof Sys2Proof.Machine Sys2Proof.Laws

/-- Settles O23: no row here is second in the overlap table, so each decides its one word; no row decides the words
between them. -/
theorem systemRowsDecodeAndRun : Obligations.SystemRowsDecodeAndRun := by
  refine ⟨⟨?nop5, fun s => rfl⟩, ⟨?nop7, fun s => rfl⟩, ⟨?halt, fun s => rfl⟩, ⟨?slp, fun s => rfl⟩, fun w hw => ?gap⟩
  case nop5 => exact decodeWord_of_row 35 (by decide) (by decide) MatchesOwnRow.nop5
  case nop7 => exact decodeWord_of_row 36 (by decide) (by decide) MatchesOwnRow.nop7
  case halt => exact decodeWord_of_row 33 (by decide) (by decide) MatchesOwnRow.halt
  case slp => exact decodeWord_of_row 34 (by decide) (by decide) MatchesOwnRow.slp
  case gap => exact decodeWord_of_unmatched (any_hits_of_systemGap w hw)

end Sys2Proof.Proofs
end

section
/-! SUPPORT. The rows that build their instruction from one operand field, and the gaps between the index register rows
(42_index.md). -/

namespace Sys2Proof

/-- A word of format `I4` carries its literal in `lower` (30_encoding.md rule R61). -/
theorem lower_append_nibble (fixed : Byte) (imm : Nibble) : lower (fixed ++ imm) = imm :=
  (BitVec.extractLsb'_append_eq_of_add_le (by decide)).trans BitVec.extractLsb'_eq_self

/-- A word of format `R2` carries the code of its selector in `w[1:0]` (rules R61, R63). -/
theorem selAt10_append_bits (fixed : BitVec 10) (r : Sel) : selAt10 (fixed ++ r.bits) = r := by
  have hfield : sel10 (fixed ++ r.bits) = r.bits :=
    (BitVec.extractLsb'_append_eq_of_add_le (by decide)).trans BitVec.extractLsb'_eq_self
  rw [selAt10, hfield, Machine.Sel_ofBits_bits]

end Sys2Proof

namespace Sys2Proof.Machine

open Sys2Proof.Safety

/-- `decodeWord_of_row` for a row that builds its instruction from the literal in `lower` alone (format `I4`). -/
theorem decodeWord_of_literalRow (k : Nat) {build : Nibble → Instr} {fixed : Byte} {imm : Nibble}
    (hk : k < RULES.length) (halone : RULES[k].prio ∉ overlaps.map Prod.snd)
    (hhit : RULES[k].hits (fixed ++ imm) = true) (hbuild : RULES[k].build = build ∘ lower) :
    decodeWord (fixed ++ imm) = build imm := by
  rw [decodeWord_of_row k hk halone hhit, hbuild, Function.comp_apply, lower_append_nibble]

/-- `decodeWord_of_row` for a row that builds its instruction from the selector in `w[1:0]` alone (format `R2`). -/
theorem decodeWord_of_selectorRow (k : Nat) {build : Sel → Instr} {fixed : BitVec 10} {r : Sel}
    (hk : k < RULES.length) (halone : RULES[k].prio ∉ overlaps.map Prod.snd)
    (hhit : RULES[k].hits (fixed ++ r.bits) = true) (hbuild : RULES[k].build = build ∘ selAt10) :
    decodeWord (fixed ++ r.bits) = build r := by
  rw [decodeWord_of_row k hk halone hhit, hbuild, Function.comp_apply, selAt10_append_bits]

/-- No row hits a word with `w[3:2] = 3` beside the transfers of `YP YH YL` and of an index nibble to `r` (rules R137 to
R145); beside those of `XP XH XL` it is `RRC r`. -/
theorem any_hits_of_transferGap :
    ∀ w ∈ ([0xE9C, 0xE9D, 0xE9E, 0xE9F, 0xEAC, 0xEAD, 0xEAE, 0xEAF, 0xEBC, 0xEBD, 0xEBE, 0xEBF] : List Word12),
      RULES.any (fun row => row.hits w) = false := by decide

end Sys2Proof.Machine
end

section
/-! SUPPORT. The statements of the family 42_index.md, settled from the laws above. -/

namespace Sys2Proof.Proofs

open Sys2Proof Sys2Proof.Machine Sys2Proof.Laws

/-- Settles O24: no row here is second in the overlap table (`INC X` and `INC Y` stand before `LDPX` and `LDPY` `r,q`),
so each decides every word of its encoding; each output reads no more than the literal. -/
theorem indexLiteralRowsDecodeAndRun : Obligations.IndexLiteralRowsDecodeAndRun := by
  refine ⟨⟨?incX, fun s => rfl⟩, ⟨?incY, fun s => rfl⟩, fun x => ⟨?ldX, fun s => rfl⟩, fun y => ⟨?ldY, fun s => rfl⟩,
    fun imm => ⟨?adcXH, fun s => rfl⟩, fun imm => ⟨?adcXL, fun s => rfl⟩, fun imm => ⟨?adcYH, fun s => rfl⟩,
    fun imm => ⟨?adcYL, fun s => rfl⟩, fun imm => ⟨?cpXH, fun s => rfl⟩, fun imm => ⟨?cpXL, fun s => rfl⟩,
    fun imm => ⟨?cpYH, fun s => rfl⟩, fun imm => ⟨?cpYL, fun s => rfl⟩⟩
  case incX => exact decodeWord_of_row 4 (by decide) (by decide) MatchesOwnRow.incX
  case incY => exact decodeWord_of_row 5 (by decide) (by decide) MatchesOwnRow.incY
  case ldX => exact decodeWord_of_byteRow 111 (by decide) (by decide) (MatchesOwnRow.ldX x) rfl
  case ldY => exact decodeWord_of_byteRow 109 (by decide) (by decide) (MatchesOwnRow.ldY y) rfl
  case adcXH => exact decodeWord_of_literalRow 61 (by decide) (by decide) (MatchesOwnRow.adcXH imm) rfl
  case adcXL => exact decodeWord_of_literalRow 62 (by decide) (by decide) (MatchesOwnRow.adcXL imm) rfl
  case adcYH => exact decodeWord_of_literalRow 63 (by decide) (by decide) (MatchesOwnRow.adcYH imm) rfl
  case adcYL => exact decodeWord_of_literalRow 64 (by decide) (by decide) (MatchesOwnRow.adcYL imm) rfl
  case cpXH => exact decodeWord_of_literalRow 65 (by decide) (by decide) (MatchesOwnRow.cpXH imm) rfl
  case cpXL => exact decodeWord_of_literalRow 66 (by decide) (by decide) (MatchesOwnRow.cpXL imm) rfl
  case cpYH => exact decodeWord_of_literalRow 67 (by decide) (by decide) (MatchesOwnRow.cpYH imm) rfl
  case cpYL => exact decodeWord_of_literalRow 68 (by decide) (by decide) (MatchesOwnRow.cpYL imm) rfl

/-- Settles O25: the rows differ in `w[11:2]`, so none is second in the overlap table and each decides the words of its
four selectors; no row decides the words with `w[3:2] = 3` beside them, apart from those of `RRC r`. -/
theorem indexNibbleTransferRowsDecodeAndRun : Obligations.IndexNibbleTransferRowsDecodeAndRun := by
  refine ⟨fun r => ⟨?ldXPr, fun s => rfl⟩, fun r => ⟨?ldXHr, fun s => rfl⟩, fun r => ⟨?ldXLr, fun s => rfl⟩,
    fun r => ⟨?ldYPr, fun s => rfl⟩, fun r => ⟨?ldYHr, fun s => rfl⟩, fun r => ⟨?ldYLr, fun s => rfl⟩,
    fun r => ⟨?ldRXP, fun s => rfl⟩, fun r => ⟨?ldRXH, fun s => rfl⟩, fun r => ⟨?ldRXL, fun s => rfl⟩,
    fun r => ⟨?ldRYP, fun s => rfl⟩, fun r => ⟨?ldRYH, fun s => rfl⟩, fun r => ⟨?ldRYL, fun s => rfl⟩,
    fun w hw => ?gap⟩
  case ldXPr => exact decodeWord_of_selectorRow 38 (by decide) (by decide) (MatchesOwnRow.ldXPr r) rfl
  case ldXHr => exact decodeWord_of_selectorRow 39 (by decide) (by decide) (MatchesOwnRow.ldXHr r) rfl
  case ldXLr => exact decodeWord_of_selectorRow 40 (by decide) (by decide) (MatchesOwnRow.ldXLr r) rfl
  case ldYPr => exact decodeWord_of_selectorRow 42 (by decide) (by decide) (MatchesOwnRow.ldYPr r) rfl
  case ldYHr => exact decodeWord_of_selectorRow 43 (by decide) (by decide) (MatchesOwnRow.ldYHr r) rfl
  case ldYLr => exact decodeWord_of_selectorRow 44 (by decide) (by decide) (MatchesOwnRow.ldYLr r) rfl
  case ldRXP => exact decodeWord_of_selectorRow 45 (by decide) (by decide) (MatchesOwnRow.ldRXP r) rfl
  case ldRXH => exact decodeWord_of_selectorRow 46 (by decide) (by decide) (MatchesOwnRow.ldRXH r) rfl
  case ldRXL => exact decodeWord_of_selectorRow 47 (by decide) (by decide) (MatchesOwnRow.ldRXL r) rfl
  case ldRYP => exact decodeWord_of_selectorRow 48 (by decide) (by decide) (MatchesOwnRow.ldRYP r) rfl
  case ldRYH => exact decodeWord_of_selectorRow 49 (by decide) (by decide) (MatchesOwnRow.ldRYH r) rfl
  case ldRYL => exact decodeWord_of_selectorRow 50 (by decide) (by decide) (MatchesOwnRow.ldRYL r) rfl
  case gap => exact decodeWord_of_unmatched (any_hits_of_transferGap w hw)

end Sys2Proof.Proofs
end

section
/-! SUPPORT. The rows that build their instruction from two operand fields, and the rows that earlier rows without free
bits take words from (30_encoding.md rules R61, R71). -/

namespace Sys2Proof

/-- A word of format `RQ` carries the code of its first selector in `w[3:2]` (30_encoding.md rules R61, R63). -/
theorem selAt32_append_pair (fixed : Byte) (r q : Sel) : selAt32 (fixed ++ r.bits ++ q.bits) = r := by
  have hfield : sel32 (fixed ++ r.bits ++ q.bits) = r.bits :=
    (BitVec.extractLsb'_append_eq_of_le (by decide)).trans <|
      (BitVec.extractLsb'_append_eq_of_add_le (by decide)).trans BitVec.extractLsb'_eq_self
  rw [selAt32, hfield, Machine.Sel_ofBits_bits]

/-- A word of format `RQ` carries the code of its second selector in `w[1:0]` (rules R61, R63). -/
theorem selAt10_append_pair (fixed : Byte) (r q : Sel) : selAt10 (fixed ++ r.bits ++ q.bits) = q :=
  selAt10_append_bits (fixed ++ r.bits) q

/-- The word of format `RQ` determines its selectors. -/
theorem selectors_eq_of_append_pair_eq {fixed : Byte} {r q r' q' : Sel}
    (h : fixed ++ r.bits ++ q.bits = fixed ++ r'.bits ++ q'.bits) : (r, q) = (r', q') := by
  have hr := congrArg selAt32 h
  have hq := congrArg selAt10 h
  rw [selAt32_append_pair, selAt32_append_pair] at hr
  rw [selAt10_append_pair, selAt10_append_pair] at hq
  rw [hr, hq]

/-- A word of format `RI` carries the code of its selector in `w[5:4]` (rules R61, R63). -/
theorem selAt54_append_bits_append_nibble (fixed : BitVec 6) (r : Sel) (imm : Nibble) :
    selAt54 (fixed ++ r.bits ++ imm) = r := by
  have hfield : sel54 (fixed ++ r.bits ++ imm) = r.bits :=
    (BitVec.extractLsb'_append_eq_of_le (by decide)).trans <|
      (BitVec.extractLsb'_append_eq_of_add_le (by decide)).trans BitVec.extractLsb'_eq_self
  rw [selAt54, hfield, Machine.Sel_ofBits_bits]

/-- A word of format `RI` carries its literal in `lower` (rule R61). -/
theorem lower_append_bits_append_nibble (fixed : BitVec 6) (r : Sel) (imm : Nibble) :
    lower (fixed ++ r.bits ++ imm) = imm :=
  lower_append_nibble (fixed ++ r.bits) imm

end Sys2Proof

namespace Sys2Proof.Machine

open Sys2Proof.Safety

/-- A row from which earlier rows take only the full words `taken` decides every other word it hits (rule R71). -/
theorem decodeWord_of_rowExcept (k : Nat) {w : Word12} (taken : List Word12) (hk : k < RULES.length)
    (htaken : ∀ row ∈ RULES, (row.prio, RULES[k].prio) ∈ overlaps → row.mask = 0xFFF ∧ row.mtch ∈ taken)
    (hw : w ∉ taken) (hhit : RULES[k].hits w = true) : decodeWord w = RULES[k].build w := by
  refine decodeWord_of_hits (List.getElem_mem hk) hhit fun row hrow hpair => ?_
  obtain ⟨hmask, hmtch⟩ := htaken row hrow hpair
  by_contra hrow_hit
  rw [Bool.not_eq_false] at hrow_hit
  exact hw (eq_mtch_of_hits hmask hrow_hit ▸ hmtch)

/-- `decodeWord_of_row` for a row that builds its instruction from the selectors in `w[3:2]` and `w[1:0]` alone (format
`RQ`). -/
theorem decodeWord_of_selectorPairRow (k : Nat) {build : Sel → Sel → Instr} {fixed : Byte} {r q : Sel}
    (hk : k < RULES.length) (halone : RULES[k].prio ∉ overlaps.map Prod.snd)
    (hhit : RULES[k].hits (fixed ++ r.bits ++ q.bits) = true)
    (hbuild : ∀ w, RULES[k].build w = build (selAt32 w) (selAt10 w)) :
    decodeWord (fixed ++ r.bits ++ q.bits) = build r q := by
  rw [decodeWord_of_row k hk halone hhit, hbuild, selAt32_append_pair, selAt10_append_pair]

/-- `decodeWord_of_rowExcept` for such a row from which an earlier row takes the word of one pair of selectors. -/
theorem decodeWord_of_selectorPairRowExcept (k : Nat) {build : Sel → Sel → Instr} {fixed : Byte} {r q : Sel}
    (r' q' : Sel) (hk : k < RULES.length)
    (htaken : ∀ row ∈ RULES, (row.prio, RULES[k].prio) ∈ overlaps →
      row.mask = 0xFFF ∧ row.mtch ∈ [fixed ++ r'.bits ++ q'.bits])
    (hne : (r, q) ≠ (r', q')) (hhit : RULES[k].hits (fixed ++ r.bits ++ q.bits) = true)
    (hbuild : ∀ w, RULES[k].build w = build (selAt32 w) (selAt10 w)) :
    decodeWord (fixed ++ r.bits ++ q.bits) = build r q := by
  have hw : fixed ++ r.bits ++ q.bits ∉ [fixed ++ r'.bits ++ q'.bits] := fun hmem =>
    hne (selectors_eq_of_append_pair_eq (List.mem_singleton.mp hmem))
  rw [decodeWord_of_rowExcept k _ hk htaken hw hhit, hbuild, selAt32_append_pair, selAt10_append_pair]

/-- `decodeWord_of_row` for a row that builds its instruction from the selector in `w[5:4]` and the literal in `lower`
alone (format `RI`). -/
theorem decodeWord_of_selectorLiteralRow (k : Nat) {build : Sel → Nibble → Instr} {fixed : BitVec 6} {r : Sel}
    {imm : Nibble} (hk : k < RULES.length) (halone : RULES[k].prio ∉ overlaps.map Prod.snd)
    (hhit : RULES[k].hits (fixed ++ r.bits ++ imm) = true)
    (hbuild : ∀ w, RULES[k].build w = build (selAt54 w) (lower w)) :
    decodeWord (fixed ++ r.bits ++ imm) = build r imm := by
  rw [decodeWord_of_row k hk halone hhit, hbuild, selAt54_append_bits_append_nibble, lower_append_bits_append_nibble]

end Sys2Proof.Machine
end

section
/-! SUPPORT. The statement of the family 43_transfer.md, settled from the laws above. -/

namespace Sys2Proof.Proofs

open Sys2Proof Sys2Proof.Machine Sys2Proof.Laws

/-- Settles O26: of the rows here only `LDPX r,q` and `LDPY r,q` are second in the overlap table; `INC X` and `INC Y`
take the one word of the pair `A,A` from them, and each row decides all other words of its encoding. -/
theorem dataTransferRowsDecodeAndRun : Obligations.DataTransferRowsDecodeAndRun := by
  refine ⟨fun r imm => ⟨?ldRI, fun s => rfl⟩, fun r q => ⟨?ldRQ, fun s => rfl⟩, fun n => ⟨?ldAMn, fun s => rfl⟩,
    fun n => ⟨?ldBMn, fun s => rfl⟩, fun n => ⟨?ldMnA, fun s => rfl⟩, fun n => ⟨?ldMnB, fun s => rfl⟩,
    fun imm => ⟨?ldpxMX, fun s => rfl⟩, fun r q hne => ?ldpxRQ, fun r q s => rfl,
    fun imm => ⟨?ldpyMY, fun s => rfl⟩, fun r q hne => ?ldpyRQ, fun r q s => rfl, fun l => ⟨?lbpx, fun s => rfl⟩,
    ?incX, ?incY⟩
  case ldRI =>
    exact decodeWord_of_selectorLiteralRow 100 (by decide) (by decide) (MatchesOwnRow.ldRI r imm) fun _ => rfl
  case ldRQ => exact decodeWord_of_selectorPairRow 78 (by decide) (by decide) (MatchesOwnRow.ldRQ r q) fun _ => rfl
  case ldAMn => exact decodeWord_of_literalRow 89 (by decide) (by decide) (MatchesOwnRow.ldAMn n) rfl
  case ldBMn => exact decodeWord_of_literalRow 90 (by decide) (by decide) (MatchesOwnRow.ldBMn n) rfl
  case ldMnA => exact decodeWord_of_literalRow 87 (by decide) (by decide) (MatchesOwnRow.ldMnA n) rfl
  case ldMnB => exact decodeWord_of_literalRow 88 (by decide) (by decide) (MatchesOwnRow.ldMnB n) rfl
  case ldpxMX => exact decodeWord_of_literalRow 76 (by decide) (by decide) (MatchesOwnRow.ldpxMX imm) rfl
  case ldpxRQ =>
    exact decodeWord_of_selectorPairRowExcept 79 .a .a (by decide) (by decide) hne (MatchesOwnRow.ldpxRQ r q)
      fun _ => rfl
  case ldpyMY => exact decodeWord_of_literalRow 77 (by decide) (by decide) (MatchesOwnRow.ldpyMY imm) rfl
  case ldpyRQ =>
    exact decodeWord_of_selectorPairRowExcept 80 .a .a (by decide) (by decide) hne (MatchesOwnRow.ldpyRQ r q)
      fun _ => rfl
  case lbpx => exact decodeWord_of_byteRow 110 (by decide) (by decide) (MatchesOwnRow.lbpx l) rfl
  case incX => exact decodeWord_of_row 4 (by decide) (by decide) MatchesOwnRow.incX
  case incY => exact decodeWord_of_row 5 (by decide) (by decide) MatchesOwnRow.incY

end Sys2Proof.Proofs
end

section
/-! SUPPORT. The rows that build their instruction from a literal, and that earlier rows without free bits take some
literals from (30_encoding.md rules R61, R71). -/

namespace Sys2Proof.Machine

open Sys2Proof.Safety

/-- `decodeWord_of_rowExcept` for a row that builds its instruction from the literal in `lower` alone (format `I4`):
earlier rows take the words of the literals `taken` from it. -/
theorem decodeWord_of_literalRowExcept (k : Nat) {build : Nibble → Instr} {fixed : Byte} {imm : Nibble}
    (taken : List Nibble) (hk : k < RULES.length)
    (htaken : ∀ row ∈ RULES, (row.prio, RULES[k].prio) ∈ overlaps →
      row.mask = 0xFFF ∧ row.mtch ∈ taken.map (fixed ++ ·))
    (himm : imm ∉ taken) (hhit : RULES[k].hits (fixed ++ imm) = true) (hbuild : RULES[k].build = build ∘ lower) :
    decodeWord (fixed ++ imm) = build imm := by
  have hw : fixed ++ imm ∉ taken.map (fixed ++ ·) := fun hmem => by
    obtain ⟨imm', himm', heq⟩ := List.mem_map.mp hmem
    have hlower := congrArg lower heq
    rw [lower_append_nibble, lower_append_nibble] at hlower
    exact himm (hlower ▸ himm')
  rw [decodeWord_of_rowExcept k _ hk htaken hw hhit, hbuild, Function.comp_apply, lower_append_nibble]

end Sys2Proof.Machine
end

section
/-! SUPPORT. The statement of the family 44_flag.md, settled from the laws above. -/

namespace Sys2Proof.Proofs

open Sys2Proof Sys2Proof.Machine Sys2Proof.Laws

/-- Settles O27: `SET F,i` and `RST F,i` are second in the overlap table, each after four of the eight aliases here; an
alias takes the word of its one literal, and each row decides all other words of its encoding. -/
theorem flagRowsDecodeAndRun : Obligations.FlagRowsDecodeAndRun := by
  refine ⟨fun imm h1 h2 h4 h8 => ?setF, fun imm s => rfl, fun imm hE hD hB h7 => ?rstF, fun imm s => rfl,
    ⟨?scf, fun s => rfl⟩, ⟨?rcf, fun s => rfl⟩, ⟨?szf, fun s => rfl⟩, ⟨?rzf, fun s => rfl⟩, ⟨?sdf, fun s => rfl⟩,
    ⟨?rdf, fun s => rfl⟩, ⟨?ei, fun s => rfl⟩, ⟨?di, fun s => rfl⟩⟩
  case setF =>
    have himm : imm ∉ [0x1, 0x2, 0x4, 0x8] := by
      simp only [List.mem_cons, List.not_mem_nil, or_false, not_or]
      exact ⟨h1, h2, h4, h8⟩
    exact decodeWord_of_literalRowExcept 83 _ (by decide) (by decide) himm (MatchesOwnRow.setF imm) rfl
  case rstF =>
    have himm : imm ∉ [0xE, 0xD, 0xB, 0x7] := by
      simp only [List.mem_cons, List.not_mem_nil, or_false, not_or]
      exact ⟨hE, hD, hB, h7⟩
    exact decodeWord_of_literalRowExcept 84 _ (by decide) (by decide) himm (MatchesOwnRow.rstF imm) rfl
  case scf => exact decodeWord_of_row 6 (by decide) (by decide) MatchesOwnRow.scf
  case rcf => exact decodeWord_of_row 13 (by decide) (by decide) MatchesOwnRow.rcf
  case szf => exact decodeWord_of_row 7 (by decide) (by decide) MatchesOwnRow.szf
  case rzf => exact decodeWord_of_row 12 (by decide) (by decide) MatchesOwnRow.rzf
  case sdf => exact decodeWord_of_row 8 (by decide) (by decide) MatchesOwnRow.sdf
  case rdf => exact decodeWord_of_row 11 (by decide) (by decide) MatchesOwnRow.rdf
  case ei => exact decodeWord_of_row 9 (by decide) (by decide) MatchesOwnRow.ei
  case di => exact decodeWord_of_row 10 (by decide) (by decide) MatchesOwnRow.di

end Sys2Proof.Proofs
end

section
/-! SUPPORT. The rows without free bits, and the gaps between the stack rows (45_stack.md). -/

namespace Sys2Proof.Machine

open Sys2Proof.Safety

/-- No row without free bits is second in the overlap table (rule R71). -/
theorem prio_not_mem_overlaps_of_mem_rulesFull : ∀ row ∈ rulesFull, row.prio ∉ overlaps.map Prod.snd := by decide

/-- A row without free bits decides its one word (rules R68, R71). -/
theorem decodeWord_mtch_of_mem_rulesFull {row : Row} (hrow : row ∈ rulesFull) :
    decodeWord row.mtch = row.build row.mtch := by
  have hmem : row ∈ RULES := by
    rw [RULES, List.append_assoc, List.append_assoc]
    exact List.mem_append_left _ hrow
  have hhit : row.hits row.mtch = true := by
    rw [hits_iff, mask_of_mem_rulesFull row hrow]
    exact BitVec.and_allOnes
  exact decodeWord_of_hits hmem hhit fun _ _ hpair =>
    absurd (List.mem_map_of_mem hpair) (prio_not_mem_overlaps_of_mem_rulesFull row hrow)

/-- The same for the row at index `k` of the rule list, which begins with these rows. -/
theorem decodeWord_of_fullRow (k : Nat) (hk : k < rulesFull.length) :
    decodeWord rulesFull[k].mtch = rulesFull[k].build rulesFull[k].mtch :=
  decodeWord_mtch_of_mem_rulesFull (List.getElem_mem hk)

/-- No row hits a word that rules R200 to R221 leave beside theirs, up to `LD r,SPL` (rule R81); the ones after it are
those of `any_hits_of_systemGap`. -/
theorem any_hits_of_stackGap :
    ∀ w ∈ ([0xFCC, 0xFCD, 0xFCE, 0xFCF, 0xFDC, 0xFDD, 0xFE9, 0xFEA, 0xFEB, 0xFEC, 0xFED, 0xFEE, 0xFEF] : List Word12),
      RULES.any (fun row => row.hits w) = false := by decide

end Sys2Proof.Machine
end

section
/-! SUPPORT. The statements of the family 45_stack.md, settled from the laws above. -/

namespace Sys2Proof.Proofs

open Sys2Proof Sys2Proof.Machine Sys2Proof.Laws

/-- Settles O28: `INC SP` and `DEC SP` have no free bit, and the rows of a selector differ in `w[11:2]`, so none is
second in the overlap table and each decides every word of its encoding; no row decides the words between them. -/
theorem stackPointerAndSelectorRowsDecodeAndRun : Obligations.StackPointerAndSelectorRowsDecodeAndRun := by
  refine ⟨⟨?incSP, fun s => rfl⟩, ⟨?decSP, fun s => rfl⟩, fun r => ⟨?pushR, fun s => rfl⟩,
    fun r => ⟨?popR, fun s => rfl⟩, fun r => ⟨?ldSPHr, fun s => rfl⟩, fun r => ⟨?ldSPLr, fun s => rfl⟩,
    fun r => ⟨?ldRSPH, fun s => rfl⟩, fun r => ⟨?ldRSPL, fun s => rfl⟩, fun w hw => ?gap⟩
  case incSP => exact decodeWord_of_fullRow 29 (by decide)
  case decSP => exact decodeWord_of_fullRow 21 (by decide)
  case pushR => exact decodeWord_of_selectorRow 55 (by decide) (by decide) (MatchesOwnRow.pushR r) rfl
  case popR => exact decodeWord_of_selectorRow 56 (by decide) (by decide) (MatchesOwnRow.popR r) rfl
  case ldSPHr => exact decodeWord_of_selectorRow 57 (by decide) (by decide) (MatchesOwnRow.ldSPHr r) rfl
  case ldSPLr => exact decodeWord_of_selectorRow 59 (by decide) (by decide) (MatchesOwnRow.ldSPLr r) rfl
  case ldRSPH => exact decodeWord_of_selectorRow 58 (by decide) (by decide) (MatchesOwnRow.ldRSPH r) rfl
  case ldRSPL => exact decodeWord_of_selectorRow 60 (by decide) (by decide) (MatchesOwnRow.ldRSPL r) rfl
  case gap =>
    exact decodeWord_of_unmatched (List.forall_mem_append.mpr ⟨any_hits_of_stackGap, any_hits_of_systemGap⟩ w hw)

/-- Settles O29: the seven rows have no free bit, so each decides its one word. -/
theorem pushNamedRegisterRowsDecodeAndRun : Obligations.PushNamedRegisterRowsDecodeAndRun := by
  refine ⟨⟨?pushXP, fun s => rfl⟩, ⟨?pushXH, fun s => rfl⟩, ⟨?pushXL, fun s => rfl⟩, ⟨?pushYP, fun s => rfl⟩,
    ⟨?pushYH, fun s => rfl⟩, ⟨?pushYL, fun s => rfl⟩, ⟨?pushF, fun s => rfl⟩⟩
  case pushXP => exact decodeWord_of_fullRow 14 (by decide)
  case pushXH => exact decodeWord_of_fullRow 15 (by decide)
  case pushXL => exact decodeWord_of_fullRow 16 (by decide)
  case pushYP => exact decodeWord_of_fullRow 17 (by decide)
  case pushYH => exact decodeWord_of_fullRow 18 (by decide)
  case pushYL => exact decodeWord_of_fullRow 19 (by decide)
  case pushF => exact decodeWord_of_fullRow 20 (by decide)

/-- Settles O30: the seven rows have no free bit either. -/
theorem popNamedRegisterRowsDecodeAndRun : Obligations.PopNamedRegisterRowsDecodeAndRun := by
  refine ⟨⟨?popXP, fun s => rfl⟩, ⟨?popXH, fun s => rfl⟩, ⟨?popXL, fun s => rfl⟩, ⟨?popYP, fun s => rfl⟩,
    ⟨?popYH, fun s => rfl⟩, ⟨?popYL, fun s => rfl⟩, ⟨?popF, fun s => rfl⟩⟩
  case popXP => exact decodeWord_of_fullRow 22 (by decide)
  case popXH => exact decodeWord_of_fullRow 23 (by decide)
  case popXL => exact decodeWord_of_fullRow 24 (by decide)
  case popYP => exact decodeWord_of_fullRow 25 (by decide)
  case popYH => exact decodeWord_of_fullRow 26 (by decide)
  case popYL => exact decodeWord_of_fullRow 27 (by decide)
  case popF => exact decodeWord_of_fullRow 28 (by decide)

end Sys2Proof.Proofs
end

section
/-! SUPPORT. The row of a selector and a literal that an earlier row takes one literal from, and the gaps between the
rotate and memory rows (46_arith.md; 30_encoding.md rules R61, R71, R81). -/

namespace Sys2Proof.Machine

open Sys2Proof.Safety

theorem lower_and (w w' : Word12) : lower (w &&& w') = lower w &&& lower w' := BitVec.extractLsb'_and

/-- A row that fixes all of `lower` hits only words with its own lower nibble (rule R67). -/
theorem lower_eq_of_hits {row : RowColumns} {w : Word12} (hmask : lower row.mask = 0xF) (h : row.hits w = true) :
    lower w = lower row.mtch := by
  rw [← hits_iff.mp h, lower_and, hmask]
  exact (BitVec.and_allOnes (x := lower w)).symm

/-- `decodeWord_of_selectorLiteralRow` for such a row from which earlier rows take the words of the literals `taken`,
whatever their selector. -/
theorem decodeWord_of_selectorLiteralRowExcept (k : Nat) {build : Sel → Nibble → Instr} {fixed : BitVec 6} {r : Sel}
    {imm : Nibble} (taken : List Nibble) (hk : k < RULES.length)
    (htaken : ∀ row ∈ RULES, (row.prio, RULES[k].prio) ∈ overlaps →
      lower row.mask = 0xF ∧ lower row.mtch ∈ taken)
    (himm : imm ∉ taken) (hhit : RULES[k].hits (fixed ++ r.bits ++ imm) = true)
    (hbuild : ∀ w, RULES[k].build w = build (selAt54 w) (lower w)) :
    decodeWord (fixed ++ r.bits ++ imm) = build r imm := by
  have hfirst : ∀ row ∈ RULES, (row.prio, RULES[k].prio) ∈ overlaps →
      row.hits (fixed ++ r.bits ++ imm) = false := fun row hrow hpair => by
    obtain ⟨hmask, hmtch⟩ := htaken row hrow hpair
    by_contra hrow_hit
    rw [Bool.not_eq_false] at hrow_hit
    have hlower := lower_eq_of_hits hmask hrow_hit
    rw [lower_append_bits_append_nibble] at hlower
    exact himm (hlower ▸ hmtch)
  rw [decodeWord_of_hits (List.getElem_mem hk) hhit hfirst, hbuild, selAt54_append_bits_append_nibble,
    lower_append_bits_append_nibble]

/-- No row hits a word of `0xAF0` to `0xAFF` beside the four of `RLC` (rules R81, R247). -/
theorem any_hits_of_rotateGap :
    ∀ w ∈ ([0xAF1, 0xAF2, 0xAF3, 0xAF4, 0xAF6, 0xAF7, 0xAF8, 0xAF9, 0xAFB, 0xAFC, 0xAFD, 0xAFE] : List Word12),
      RULES.any (fun row => row.hits w) = false := by decide

/-- No row hits a word with `w[3] = 0` before those of `ACPX` and `ACPY`, or of `SCPX` and `SCPY` (rules R81, R251 to
R254). -/
theorem any_hits_of_memoryCarryGap :
    ∀ w ∈ ([0xF20, 0xF21, 0xF22, 0xF23, 0xF24, 0xF25, 0xF26, 0xF27, 0xF30, 0xF31, 0xF32, 0xF33, 0xF34, 0xF35, 0xF36,
      0xF37] : List Word12), RULES.any (fun row => row.hits w) = false := by decide

end Sys2Proof.Machine
end

section
/-! SUPPORT. The statements of the family 46_arith.md, settled from the laws above. -/

namespace Sys2Proof.Proofs

open Sys2Proof Sys2Proof.Machine Sys2Proof.Laws

/-- Settles O31: of the rows here only `XOR r,i` is second in the overlap table; `NOT r` takes the words of the literal
`0xF` from it, and each row decides all other words of its encoding. -/
theorem arithmeticLiteralRowsDecodeAndRun : Obligations.ArithmeticLiteralRowsDecodeAndRun := by
  refine ⟨fun r imm => ⟨?addRI, fun s => rfl⟩, fun r imm => ⟨?adcRI, fun s => rfl⟩, fun r imm => ⟨?sbcRI, fun s => rfl⟩,
    fun r imm => ⟨?andRI, fun s => rfl⟩, fun r imm => ⟨?orRI, fun s => rfl⟩, fun r imm hne => ?xorRI,
    fun r imm s => rfl, fun r imm => ⟨?cpRI, fun s => rfl⟩, fun r imm => ⟨?fanRI, fun s => rfl⟩,
    fun r => ⟨?notR, fun s => rfl⟩⟩
  case addRI =>
    exact decodeWord_of_selectorLiteralRow 92 (by decide) (by decide) (MatchesOwnRow.addRI r imm) fun _ => rfl
  case adcRI =>
    exact decodeWord_of_selectorLiteralRow 93 (by decide) (by decide) (MatchesOwnRow.adcRI r imm) fun _ => rfl
  case sbcRI =>
    exact decodeWord_of_selectorLiteralRow 97 (by decide) (by decide) (MatchesOwnRow.sbcRI r imm) fun _ => rfl
  case andRI =>
    exact decodeWord_of_selectorLiteralRow 94 (by decide) (by decide) (MatchesOwnRow.andRI r imm) fun _ => rfl
  case orRI =>
    exact decodeWord_of_selectorLiteralRow 95 (by decide) (by decide) (MatchesOwnRow.orRI r imm) fun _ => rfl
  case xorRI =>
    exact decodeWord_of_selectorLiteralRowExcept 96 [0xF] (by decide) (by decide) (mt List.mem_singleton.mp hne)
      (MatchesOwnRow.xorRI r imm) fun _ => rfl
  case cpRI =>
    exact decodeWord_of_selectorLiteralRow 99 (by decide) (by decide) (MatchesOwnRow.cpRI r imm) fun _ => rfl
  case fanRI =>
    exact decodeWord_of_selectorLiteralRow 98 (by decide) (by decide) (MatchesOwnRow.fanRI r imm) fun _ => rfl
  case notR =>
    exact (decodeWord_of_row 37 (by decide) (by decide) (MatchesOwnRow.notR r)).trans
      (congrArg Instr.notR (selAt54_append_bits_append_nibble 0b110100#6 r 0b1111#4))

/-- Settles O32: the rows differ in `w[11:4]` and none is second in the overlap table, so each decides the words of its
sixteen operand pairs. -/
theorem arithmeticRegisterRowsDecodeAndRun : Obligations.ArithmeticRegisterRowsDecodeAndRun := by
  refine ⟨fun r q => ⟨?addRQ, fun s => rfl⟩, fun r q => ⟨?adcRQ, fun s => rfl⟩, fun r q => ⟨?subRQ, fun s => rfl⟩,
    fun r q => ⟨?sbcRQ, fun s => rfl⟩, fun r q => ⟨?andRQ, fun s => rfl⟩, fun r q => ⟨?orRQ, fun s => rfl⟩,
    fun r q => ⟨?xorRQ, fun s => rfl⟩, fun r q => ⟨?cpRQ, fun s => rfl⟩, fun r q => ⟨?fanRQ, fun s => rfl⟩⟩
  case addRQ => exact decodeWord_of_selectorPairRow 69 (by decide) (by decide) (MatchesOwnRow.addRQ r q) fun _ => rfl
  case adcRQ => exact decodeWord_of_selectorPairRow 70 (by decide) (by decide) (MatchesOwnRow.adcRQ r q) fun _ => rfl
  case subRQ => exact decodeWord_of_selectorPairRow 71 (by decide) (by decide) (MatchesOwnRow.subRQ r q) fun _ => rfl
  case sbcRQ => exact decodeWord_of_selectorPairRow 72 (by decide) (by decide) (MatchesOwnRow.sbcRQ r q) fun _ => rfl
  case andRQ => exact decodeWord_of_selectorPairRow 73 (by decide) (by decide) (MatchesOwnRow.andRQ r q) fun _ => rfl
  case orRQ => exact decodeWord_of_selectorPairRow 74 (by decide) (by decide) (MatchesOwnRow.orRQ r q) fun _ => rfl
  case xorRQ => exact decodeWord_of_selectorPairRow 75 (by decide) (by decide) (MatchesOwnRow.xorRQ r q) fun _ => rfl
  case cpRQ => exact decodeWord_of_selectorPairRow 81 (by decide) (by decide) (MatchesOwnRow.cpRQ r q) fun _ => rfl
  case fanRQ => exact decodeWord_of_selectorPairRow 82 (by decide) (by decide) (MatchesOwnRow.fanRQ r q) fun _ => rfl

/-- Settles O33: the four `RLC` rows have no free bit, and none of the others is second in the overlap table, so each
decides every word of its encoding; no row decides the words between them. -/
theorem rotateCountAndMemoryCarryRowsDecodeAndRun : Obligations.RotateCountAndMemoryCarryRowsDecodeAndRun := by
  refine ⟨⟨?rlcA, fun s => rfl⟩, ⟨?rlcB, fun s => rfl⟩, ⟨?rlcMX, fun s => rfl⟩, ⟨?rlcMY, fun s => rfl⟩,
    fun r => ⟨?rrcR, fun s => rfl⟩, fun n => ⟨?incMn, fun s => rfl⟩, fun n => ⟨?decMn, fun s => rfl⟩,
    fun r => ⟨?acpx, fun s => rfl⟩, fun r => ⟨?acpy, fun s => rfl⟩, fun r => ⟨?scpx, fun s => rfl⟩,
    fun r => ⟨?scpy, fun s => rfl⟩, fun w hw => ?gap⟩
  case rlcA => exact decodeWord_of_fullRow 0 (by decide)
  case rlcB => exact decodeWord_of_fullRow 1 (by decide)
  case rlcMX => exact decodeWord_of_fullRow 2 (by decide)
  case rlcMY => exact decodeWord_of_fullRow 3 (by decide)
  case rrcR => exact decodeWord_of_selectorRow 41 (by decide) (by decide) (MatchesOwnRow.rrcR r) rfl
  case incMn => exact decodeWord_of_literalRow 85 (by decide) (by decide) (MatchesOwnRow.incMn n) rfl
  case decMn => exact decodeWord_of_literalRow 86 (by decide) (by decide) (MatchesOwnRow.decMn n) rfl
  case acpx => exact decodeWord_of_selectorRow 51 (by decide) (by decide) (MatchesOwnRow.acpx r) rfl
  case acpy => exact decodeWord_of_selectorRow 52 (by decide) (by decide) (MatchesOwnRow.acpy r) rfl
  case scpx => exact decodeWord_of_selectorRow 53 (by decide) (by decide) (MatchesOwnRow.scpx r) rfl
  case scpy => exact decodeWord_of_selectorRow 54 (by decide) (by decide) (MatchesOwnRow.scpy r) rfl
  case gap =>
    exact decodeWord_of_unmatched (List.forall_mem_append.mpr ⟨any_hits_of_rotateGap, any_hits_of_memoryCarryGap⟩ w hw)

end Sys2Proof.Proofs
end

section
/-! SUPPORT. Encoder and decoder are inverse (30_encoding.md rules R61, R68, R72, R81): the decoder reads back every
well-formed instruction, and the nibble table reads every word as a well-formed instruction of that word. -/

namespace Sys2Proof.Machine

open Sys2Proof.Safety Sys2Proof.Proofs

theorem upper_append_combinedLow8 (w : Word12) : upper w ++ combinedLow8 w = w := by
  rw [upper, combinedLow8, BitVec.extractLsb'_append_extractLsb'_eq_extractLsb' (by decide)]
  exact BitVec.extractLsb'_eq_self

/-- The container of an instruction holds its word (20_memory.md rule R40). -/
theorem wordOf_encodeBytes (i : Instr) : wordOf (encodeBytes i) = .ok (encode i) := by
  have hupper : (0#4 ++ upper (encode i)).extractLsb' 0 4 = upper (encode i) :=
    (BitVec.extractLsb'_append_eq_of_add_le (by decide)).trans BitVec.extractLsb'_eq_self
  have hpair := wordOf_append_pair [] (0#4 ++ upper (encode i)) (combinedLow8 (encode i))
  rwa [hupper, upper_append_combinedLow8] at hpair

/-- No row hits a word of the table of rule R81. -/
theorem any_hits_of_mem_unmatchedRanges : ∀ r ∈ unmatchedRanges, ∀ n ∈ List.range' r.1 (r.2 + 1 - r.1),
    RULES.any (fun row => row.hits (BitVec.ofNat 12 n)) = false := by decide

theorem decodeWord_of_unmatched_table {w : Word12} (h : unmatched w = true) : decodeWord w = .unknown w := by
  obtain ⟨r, hr, hw⟩ := List.any_eq_true.mp h
  simp only [Bool.and_eq_true, decide_eq_true_eq] at hw
  have hnone := any_hits_of_mem_unmatchedRanges r hr w.toNat (List.mem_range'_1.mpr (by omega))
  rw [BitVec.ofNat_toNat, BitVec.setWidth_eq] at hnone
  exact decodeWord_of_unmatched hnone

/-- The rows' own statements, family by family, say that each well-formed instruction's word decodes to it. -/
theorem decodeWord_encode {i : Instr} (h : i.wellFormed = true) : decodeWord (encode i) = i := by
  have hjump := pageSetAndJumpRowsDecodeAndRun
  have hcall := indirectCallAndReturnRowsDecodeAndRun
  have hsystem := systemRowsDecodeAndRun
  have hindex := indexLiteralRowsDecodeAndRun
  have hnibble := indexNibbleTransferRowsDecodeAndRun
  have htransfer := dataTransferRowsDecodeAndRun
  have hflag := flagRowsDecodeAndRun
  have hstack := stackPointerAndSelectorRowsDecodeAndRun
  have hpush := pushNamedRegisterRowsDecodeAndRun
  have hpop := popNamedRegisterRowsDecodeAndRun
  have hliteral := arithmeticLiteralRowsDecodeAndRun
  have hregister := arithmeticRegisterRowsDecodeAndRun
  have hrotate := rotateCountAndMemoryCarryRowsDecodeAndRun
  unfold Obligations.PageSetAndJumpRowsDecodeAndRun Obligations.IndirectCallAndReturnRowsDecodeAndRun
    Obligations.SystemRowsDecodeAndRun Obligations.IndexLiteralRowsDecodeAndRun
    Obligations.IndexNibbleTransferRowsDecodeAndRun Obligations.DataTransferRowsDecodeAndRun
    Obligations.FlagRowsDecodeAndRun Obligations.StackPointerAndSelectorRowsDecodeAndRun
    Obligations.PushNamedRegisterRowsDecodeAndRun Obligations.PopNamedRegisterRowsDecodeAndRun
    Obligations.ArithmeticLiteralRowsDecodeAndRun Obligations.ArithmeticRegisterRowsDecodeAndRun
    Obligations.RotateCountAndMemoryCarryRowsDecodeAndRun at *
  cases i with
  | unknown w => exact decodeWord_of_unmatched_table h
  | setF imm =>
    obtain ⟨⟨⟨h1, h2⟩, h4⟩, h8⟩ : ((imm ≠ 0x1 ∧ imm ≠ 0x2) ∧ imm ≠ 0x4) ∧ imm ≠ 0x8 := by
      simpa [Instr.wellFormed] using h
    simp only [encode, hflag, ne_eq, h1, h2, h4, h8, not_false_eq_true]
  | rstF imm =>
    obtain ⟨⟨⟨hE, hD⟩, hB⟩, h7⟩ : ((imm ≠ 0xE ∧ imm ≠ 0xD) ∧ imm ≠ 0xB) ∧ imm ≠ 0x7 := by
      simpa [Instr.wellFormed] using h
    simp only [encode, hflag, ne_eq, hE, hD, hB, h7, not_false_eq_true]
  | xorRI r imm =>
    have hne : imm ≠ 0xF := by simpa [Instr.wellFormed] using h
    simp only [encode, hliteral, ne_eq, hne, not_false_eq_true]
  | ldpxRQ r q =>
    have hne : (r, q) ≠ (.a, .a) := by rintro ⟨⟩; cases h
    simp only [encode, htransfer, ne_eq, hne, not_false_eq_true]
  | ldpyRQ r q =>
    have hne : (r, q) ≠ (.a, .a) := by rintro ⟨⟩; cases h
    simp only [encode, htransfer, ne_eq, hne, not_false_eq_true]
  | _ => simp only [encode, hjump, hcall, hsystem, hindex, hnibble, htransfer, hflag, hstack, hpush, hpop, hliteral,
      hregister, hrotate]


/-- The instruction is well-formed and its word is `w`. -/
def Reads (w : Word12) (i : Instr) : Prop := encode i = w ∧ i.wellFormed = true

/-! The five tables of rule R72 that go on by `middle` and `lower`, at each low byte. -/

theorem reads_nibblesA : ∀ b : Byte, Reads (0xA#4 ++ b) (nibblesA (0xA#4 ++ b)) := by unfold Reads; decide
theorem reads_nibblesC : ∀ b : Byte, Reads (0xC#4 ++ b) (nibblesC (0xC#4 ++ b)) := by unfold Reads; decide
theorem reads_nibblesD : ∀ b : Byte, Reads (0xD#4 ++ b) (nibblesD (0xD#4 ++ b)) := by unfold Reads; decide
theorem reads_nibblesE : ∀ b : Byte, Reads (0xE#4 ++ b) (nibblesE (0xE#4 ++ b)) := by unfold Reads; decide
theorem reads_nibblesF : ∀ b : Byte, Reads (0xF#4 ++ b) (nibblesF (0xF#4 ++ b)) := by unfold Reads; decide

/-- The nibble table reads every word as a well-formed instruction of that word: the rows of an upper nibble alone carry
the low byte, the others go on in a table of their own (rule R72). -/
theorem reads_decodeByNibbles (w : Word12) : Reads w (decodeByNibbles w) := by
  have hw (n : Nat) (h : (upper w).toNat = n) : w = BitVec.ofNat 4 n ++ combinedLow8 w := by
    rw [← h, BitVec.ofNat_toNat, BitVec.setWidth_eq, upper_append_combinedLow8]
  unfold decodeByNibbles
  split
  case h_11 h => rw [hw _ h]; exact reads_nibblesA _
  case h_13 h => rw [hw _ h]; exact reads_nibblesC _
  case h_14 h => rw [hw _ h]; exact reads_nibblesD _
  case h_15 h => rw [hw _ h]; exact reads_nibblesE _
  case h_16 => 
    have hlt := (upper w).isLt
    have h : (upper w).toNat = 0xF := by grind
    rw [hw _ h]; exact reads_nibblesF _
  all_goals exact ⟨(hw _ ‹_›).symm, rfl⟩

/-- The nibble table and the rule list read every word alike: the decoder reads back the instruction that the table
reads (rule R72). -/
theorem decodeWord_eq_decodeByNibbles (w : Word12) : decodeWord w = decodeByNibbles w := by
  obtain ⟨hencode, hwf⟩ := reads_decodeByNibbles w
  rw [← decodeWord_encode hwf, hencode]

theorem reads_decodeWord (w : Word12) : Reads w (decodeWord w) :=
  decodeWord_eq_decodeByNibbles w ▸ reads_decodeByNibbles w

theorem decode_encodeBytes {i : Instr} (h : i.wellFormed = true) : decode (encodeBytes i) = .ok i :=
  decode_ok_iff.mpr ⟨_, wordOf_encodeBytes i, decodeWord_encode h⟩

theorem decode_of_wordOf {bytes : List Byte} {w : Word12} (h : wordOf bytes = .ok w) :
    decode bytes = .ok (decodeWord w) := decode_ok_iff.mpr ⟨w, h, rfl⟩

/-- Well-formed instructions differ in their words. -/
theorem eq_of_encode_eq {i j : Instr} (hi : i.wellFormed = true) (hj : j.wellFormed = true)
    (h : encode i = encode j) : i = j := by rw [← decodeWord_encode hi, h, decodeWord_encode hj]

/-- A word decodes to `UNKNOWN` exactly when it is in the table of rule R81. -/
theorem decodeWord_eq_unknown_iff (w : Word12) : (∃ v, decodeWord w = .unknown v) ↔ unmatched w = true := by
  constructor
  · rintro ⟨v, hv⟩
    obtain ⟨hencode, hwf⟩ := hv ▸ reads_decodeWord w
    exact hencode ▸ hwf
  · exact fun h => ⟨w, decodeWord_of_unmatched_table h⟩

/-- Aliases share the word of their general form, and it stands for them (rule R92). -/
theorem aliasOf_spec {i g : Instr} (h : aliasOf i = some g) :
    encode i = encode g ∧ i.wellFormed = true ∧ g.wellFormed = false := by
  cases i <;> cases h <;> exact ⟨rfl, rfl, rfl⟩

/-- Outside `UNKNOWN`, the terms that no word stands for are the general forms of the aliases (rule R71). -/
theorem exists_alias_of_not_wellFormed {g : Instr} (h : g.wellFormed = false) (hg : ∀ w, g ≠ .unknown w) :
    ∃ i, aliasOf i = some g := by
  cases g with
  | unknown w => exact absurd rfl (hg w)
  | setF imm =>
    have himm : imm = 0x1 ∨ imm = 0x2 ∨ imm = 0x4 ∨ imm = 0x8 := by
      simpa [Instr.wellFormed, or_iff_not_imp_left] using h
    rcases himm with rfl | rfl | rfl | rfl
    exacts [⟨.scf, rfl⟩, ⟨.szf, rfl⟩, ⟨.sdf, rfl⟩, ⟨.ei, rfl⟩]
  | rstF imm =>
    have himm : imm = 0xE ∨ imm = 0xD ∨ imm = 0xB ∨ imm = 0x7 := by
      simpa [Instr.wellFormed, or_iff_not_imp_left] using h
    rcases himm with rfl | rfl | rfl | rfl
    exacts [⟨.rcf, rfl⟩, ⟨.rzf, rfl⟩, ⟨.rdf, rfl⟩, ⟨.di, rfl⟩]
  | xorRI r imm =>
    obtain rfl : imm = 0xF := by simpa [Instr.wellFormed] using h
    exact ⟨.notR r, rfl⟩
  | ldpxRQ r q =>
    obtain ⟨rfl, rfl⟩ : r = .a ∧ q = .a := by simpa [Instr.wellFormed] using h
    exact ⟨.incX, rfl⟩
  | ldpyRQ r q =>
    obtain ⟨rfl, rfl⟩ : r = .a ∧ q = .a := by simpa [Instr.wellFormed] using h
    exact ⟨.incY, rfl⟩
  | _ => cases h

end Sys2Proof.Machine
end

section
/-! SUPPORT. The statements on encoder, nibble table, unmatched words and aliases, settled from the laws above. -/

namespace Sys2Proof.Proofs

open Sys2Proof Sys2Proof.Machine Sys2Proof.Safety

/-- Settles O4: the container holds the instruction's word, and each row's own statement decodes it. -/
theorem decodeReadsBackEveryEncodedInstruction : Obligations.DecodeReadsBackEveryEncodedInstruction :=
  fun _ => decode_encodeBytes

/-- Settles O5: the nibble table reads every word as a well-formed instruction of that word, and the decoder reads that
instruction back. -/
theorem decodedInstructionsEncodeBackToTheirWord : Obligations.DecodedInstructionsEncodeBackToTheirWord := by
  intro bytes i h
  obtain ⟨w, hw, rfl⟩ := decode_ok_iff.mp h
  obtain ⟨hencode, hwf⟩ := reads_decodeWord w
  exact ⟨hwf, hencode.symm ▸ hw⟩

/-- Settles O10: both forms agree on every word, and no bytes fail alike. -/
theorem nibbleTableDecodesAlike : Obligations.NibbleTableDecodesAlike := by
  intro bytes
  unfold decode
  cases wordOf bytes with
  | error e => rfl
  | ok w => exact congrArg Except.ok (decodeWord_eq_decodeByNibbles w).symm

/-- Settles O11: an `UNKNOWN` that a word decodes to is well-formed, and carries that word. -/
theorem unmatchedWordsAreTheSeventyThree : Obligations.UnmatchedWordsAreTheSeventyThree := by
  refine ⟨fun bytes w hw => ?_, rfl⟩
  rw [decode_of_wordOf hw, ← decodeWord_eq_unknown_iff]
  simp

/-- Settles O55: aliases are the well-formed instructions of their words, and each word has one. -/
theorem aliasesAreInstancesOfTheirGeneralRow : Obligations.AliasesAreInstancesOfTheirGeneralRow := by
  refine ⟨fun i g h => ?_, fun g hg hne => ?_⟩
  · obtain ⟨hencode, hi, hg⟩ := aliasOf_spec h
    refine ⟨hencode, hi, hg, ?_⟩
    rw [encodeBytes, ← hencode]
    exact decode_encodeBytes hi
  · obtain ⟨i, hi⟩ := exists_alias_of_not_wellFormed hg hne
    refine ⟨i, hi, fun j hj => ?_⟩
    obtain ⟨hi_encode, hi_wf, -⟩ := aliasOf_spec hi
    obtain ⟨hj_encode, hj_wf, -⟩ := aliasOf_spec hj
    exact eq_of_encode_eq hj_wf hi_wf (hj_encode.trans hi_encode.symm)

end Sys2Proof.Proofs
end

section
/-! SUPPORT. The overlap table (30_encoding.md rule R71): what it says of two rows of the list, why the order of the
other rows does not matter, and that every row decides some word. -/

namespace Sys2Proof.Machine

open Sys2Proof.Safety

/-! ### Two rows of the list -/

theorem prio_getElem (k : Nat) (hk : k < RULES.length) : RULES[k].prio = k + 1 := by
  have hcolumn : (RULES.map fun row => row.prio)[k]? = (List.range' 1 112)[k]? := by rw [prio_column_eq]
  have hlt : k < 112 := hk
  simpa [hk, hlt, Nat.add_comm 1 k] using hcolumn

/-- What holds of every two rows in the order of the list holds of every two rows in the order of their priorities. -/
theorem RULES_forall_of_prio_lt {P : Row → Row → Prop} (h : RULES.Pairwise P) {a b : Row} (ha : a ∈ RULES)
    (hb : b ∈ RULES) (hlt : a.prio < b.prio) : P a b := by
  obtain ⟨k, hk, rfl⟩ := List.getElem_of_mem ha
  obtain ⟨l, hl, rfl⟩ := List.getElem_of_mem hb
  rw [prio_getElem, prio_getElem] at hlt
  exact List.pairwise_iff_getElem.mp h k l hk hl (by omega)

theorem sublist_of_prio_lt {a b : Row} (ha : a ∈ RULES) (hb : b ∈ RULES) (hlt : a.prio < b.prio) :
    List.Sublist [a, b] RULES := RULES_forall_of_prio_lt (List.pairwise_iff_forall_sublist.mpr id) ha hb hlt

/-- Row `b` hits every word of row `a`, and also the word next to `a`'s own, which `a` does not hit. -/
def StrictlyInside (a b : RowColumns) : Prop :=
  a.mask &&& b.mask = b.mask ∧ a.mtch &&& b.mask = b.mtch ∧ a.hits a.mtch = true ∧
    b.hits (a.mtch ^^^ 1) = true ∧ a.hits (a.mtch ^^^ 1) = false

theorem getElem?_prio {row : Row} (hrow : row ∈ RULES) : RULES[row.prio - 1]? = some row := by
  obtain ⟨k, hk, rfl⟩ := List.getElem_of_mem hrow
  rw [prio_getElem, Nat.add_sub_cancel, List.getElem?_eq_getElem hk]

/-- In each pair of the overlap table the earlier row lies inside the later (rule R71); it takes the later row's own
word from `LDPX r,q` and `LDPY r,q` alone. -/
theorem overlaps_rows : ∀ p ∈ overlaps, ∀ a ∈ RULES[p.1 - 1]?, ∀ b ∈ RULES[p.2 - 1]?,
    StrictlyInside a.toRowColumns b.toRowColumns ∧ (b.prio ≠ 80 ∧ b.prio ≠ 81 → a.hits b.mtch = false) := by
  unfold StrictlyInside
  decide

theorem strictlyInside_of_overlaps {a b : Row} (ha : a ∈ RULES) (hb : b ∈ RULES)
    (hpair : (a.prio, b.prio) ∈ overlaps) : StrictlyInside a.toRowColumns b.toRowColumns :=
  (overlaps_rows _ hpair a (getElem?_prio ha) b (getElem?_prio hb)).1

theorem StrictlyInside.hits {a b : RowColumns} (h : StrictlyInside a b) {w : Word12} (hw : a.hits w = true) :
    b.hits w = true := by
  obtain ⟨hmask, hmtch, -⟩ := h
  rw [hits_iff] at *
  rw [← hmask, ← BitVec.and_assoc, hw, hmtch]

/-- Two rows that hit a common word are a pair of the overlap table (rule R71). -/
theorem overlaps_of_hits {a b : Row} {w : Word12} (ha : a ∈ RULES) (hb : b ∈ RULES) (hlt : a.prio < b.prio)
    (haw : a.hits w = true) (hbw : b.hits w = true) : (a.prio, b.prio) ∈ overlaps :=
  RULES_forall_of_prio_lt RULES_pairwise_overlaps ha hb hlt (compatible_of_hits haw hbw)

/-! ### The choice of a row under another order -/

theorem RULES_nodup : RULES.Nodup := .of_map (fun row => row.prio) (prio_column_eq ▸ List.nodup_range')

theorem eq_of_prio_eq {a b : Row} (ha : a ∈ RULES) (hb : b ∈ RULES) (h : a.prio = b.prio) : a = b :=
  List.inj_on_of_nodup_map (f := fun row : Row => row.prio) (prio_column_eq ▸ List.nodup_range') ha hb h

/-- A row that stands before another in a list without repetitions, and hits the word, keeps it from deciding it. -/
theorem not_decodeRow_of_sublist {rules : List Row} {a b : Row} {w : Word12} (hnodup : rules.Nodup)
    (hbefore : List.Sublist [a, b] rules) (hne : a ≠ b) (ha : a.hits w = true) (hb : b.hits w = true) :
    decodeRow rules w ≠ some b := by
  intro hrow
  obtain ⟨-, before, after, rfl, hnone⟩ := decodeRow_eq_some_iff.mp hrow
  have hhits : List.Sublist [a, b] (b :: after.filter fun row => row.hits w) := by
    simpa [ha, hb, List.filter_eq_nil_iff.mpr fun r hr => Bool.eq_false_iff.mp (hnone r hr)] using
      hbefore.filter fun row => row.hits w
  have hafter : b ∉ after := (List.nodup_cons.mp (List.nodup_append.mp hnodup).2.1).1
  cases hhits with
  | cons_cons _ _ => exact hne rfl
  | cons _ hrest => exact hafter (List.mem_of_mem_filter (hrest.subset (by simp)))

/-- Under an order that keeps the overlapping pairs in order, each word is decided by the same row (rule R71). -/
theorem decodeRow_of_perm {rules : List Row} (hperm : rules.Perm RULES)
    (hkeeps : ∀ a ∈ RULES, ∀ b ∈ RULES, (a.prio, b.prio) ∈ overlaps → List.Sublist [a, b] rules) (w : Word12) :
    decodeRow rules w = decodeRow RULES w := by
  cases hrow : decodeRow RULES w with
  | none => exact decodeRow_eq_none_iff.mpr fun r hr => decodeRow_none hrow r (hperm.subset hr)
  | some a =>
    obtain ⟨ha, haw⟩ := decodeRow_some hrow
    cases hrow' : decodeRow rules w with
    | none => simp [decodeRow_none hrow' a (hperm.symm.subset ha)] at haw
    | some b =>
      obtain ⟨hb, hbw⟩ := decodeRow_some hrow'
      have hb := hperm.subset hb
      rcases lt_trichotomy a.prio b.prio with hlt | heq | hgt
      · have hbefore := hkeeps a ha b hb (overlaps_of_hits ha hb hlt haw hbw)
        have hne : a ≠ b := by rintro rfl; omega
        exact absurd hrow' (not_decodeRow_of_sublist (hperm.nodup_iff.mpr RULES_nodup) hbefore hne haw hbw)
      · rw [eq_of_prio_eq ha hb heq]
      · have hne : b ≠ a := by rintro rfl; omega
        exact absurd hrow (not_decodeRow_of_sublist RULES_nodup (sublist_of_prio_lt hb ha hgt) hne hbw haw)

/-! ### Mnemonics -/

theorem mem_mnemonicOrder (m : Mnemonic) : m ∈ mnemonicOrder := by cases m <;> decide

theorem hits_own_mtch : ∀ row ∈ RULES, row.hits row.mtch = true := by decide

/-- Every row but these two decides its own word (rule R71: every row is reachable). -/
theorem decodeWord_own_mtch {row : Row} (hrow : row ∈ RULES) (hprio : row.prio ≠ 80 ∧ row.prio ≠ 81) :
    decodeWord row.mtch = row.build row.mtch :=
  decodeWord_of_hits hrow (hits_own_mtch row hrow) fun _ hr hpair =>
    (overlaps_rows _ hpair _ (getElem?_prio hr) row (getElem?_prio hrow)).2 hprio

theorem mnemonicOrder_subset_column : mnemonicOrder ⊆
    .UNKNOWN :: (RULES.filter fun row => row.prio ≠ 80 ∧ row.prio ≠ 81).map fun row => row.mnemonic := by decide

/-- Every mnemonic but `UNKNOWN` stands on such a row (rule R70). -/
theorem exists_row_of_mnemonic {m : Mnemonic} (hm : m ≠ .UNKNOWN) :
    ∃ row ∈ RULES, row.mnemonic = m ∧ row.prio ≠ 80 ∧ row.prio ≠ 81 := by
  have hmem := List.mem_of_ne_of_mem hm (mnemonicOrder_subset_column (mem_mnemonicOrder m))
  obtain ⟨row, hfilter, hmnemonic⟩ := List.mem_map.mp hmem
  obtain ⟨hrow, hprio⟩ := List.mem_filter.mp hfilter
  exact ⟨row, hrow, hmnemonic, of_decide_eq_true hprio⟩

/-- Where a word decodes as a row builds it, the block outputs the row's columns. -/
theorem decodedWord_of_decodeWord {row : Row} {w : Word12} (hrow : row ∈ RULES) (hhit : row.hits w = true)
    (h : decodeWord w = row.build w) (address : WordAddr) (pageRec : PageValue) :
    decodedWord RULES Config.params w address pageRec = rowAction Config.params row.toRowColumns w address pageRec := by
  rw [← outputOf_decodeWord, h, RULES_agree row hrow w address pageRec hhit]

theorem exists_word_of_mnemonic (m : Mnemonic) : ∃ w, ∀ address pageRec,
    (decodedWord RULES Config.params w address pageRec).mnemonic = m := by
  by_cases hm : m = .UNKNOWN
  · refine ⟨0xED0, fun address pageRec => ?_⟩
    rw [decodedWord_of_unmatched (by decide), hm, unknownOutput]
  · obtain ⟨row, hrow, hmnemonic, hprio⟩ := exists_row_of_mnemonic hm
    refine ⟨row.mtch, fun address pageRec => ?_⟩
    have hdecode := decodeWord_own_mtch hrow hprio
    rw [decodedWord_of_decodeWord hrow (hits_own_mtch row hrow) hdecode, rowAction, hmnemonic]

/-- Every word is in some container: `UNKNOWN` may carry any. -/
theorem exists_bytes_of_word (w : Word12) : ∃ bytes, wordOf bytes = .ok w := ⟨_, wordOf_encodeBytes (.unknown w)⟩

end Sys2Proof.Machine
end

section
/-! SUPPORT. The statements on overlapping rows, other orders and mnemonics, settled from the laws above. -/

namespace Sys2Proof.Proofs

open Sys2Proof Sys2Proof.Machine Sys2Proof.Safety

/-- Settles O8: a pair of the table has a common word because its earlier row lies inside the later, and two rows of
any other pair ask for different bits. -/
theorem elevenPairsOfRowsOverlapAndNoOther : Obligations.ElevenPairsOfRowsOverlapAndNoOther := by
  intro a ha b hb hlt
  have hinside := strictlyInside_of_overlaps ha hb
  refine ⟨⟨fun ⟨w, haw, hbw⟩ => overlaps_of_hits ha hb hlt haw hbw, fun hpair => ?_⟩, fun hpair => ?_⟩
  · obtain ⟨-, -, hown, -⟩ := hinside hpair
    exact ⟨a.mtch, hown, (hinside hpair).hits hown⟩
  · obtain ⟨-, -, -, hnext, hnext'⟩ := hinside hpair
    exact ⟨fun w => (hinside hpair).hits, a.mtch ^^^ 1, hnext, hnext'⟩

/-- Settles O9: the same row decides each word. -/
theorem anyOrderThatKeepsTheOverlapsDecodesAlike : Obligations.AnyOrderThatKeepsTheOverlapsDecodesAlike := by
  intro rules hperm hkeeps bytes
  have hword (w : Word12) : decodeWordWith rules w = decodeWord w := by
    rw [decodeWord, decodeWordWith, decodeWordWith, decodeRow_of_perm hperm hkeeps]
  unfold decode
  cases wordOf bytes with
  | error e => rfl
  | ok w => exact congrArg Except.ok (hword w)

/-- Settles O13: each mnemonic stands on a row that decides its own word, and `UNKNOWN` is output where no row does. -/
theorem fortySevenMnemonicsAllReached : Obligations.FortySevenMnemonicsAllReached := by
  refine ⟨rfl, by decide, fun m => ⟨mem_mnemonicOrder m, ?_⟩⟩
  obtain ⟨w, hw⟩ := exists_word_of_mnemonic m
  obtain ⟨bytes, hbytes⟩ := exists_bytes_of_word w
  exact ⟨bytes, fun address pageRec => ⟨_, decodeCall_of_wordOf hbytes address pageRec, hw address pageRec⟩⟩

end Sys2Proof.Proofs
end

section
/-! SUPPORT. The shape of a result (10_state.md rules R17, R23 to R25; 20_memory.md rule R46; 30_encoding.md rule R65),
instruction by instruction, and which inputs it depends on. -/

namespace Sys2Proof.Machine

open Sys2Proof.Safety

/-! ### Assembled targets -/

/-- A target is 19 zeros, the bank bit, the page nibble and the step (rule R46). -/
theorem assembleTarget_eq_append (bank : BitVec 1) (page : Nibble) (step : Byte) :
    assembleTarget bank page step = 0#19 ++ (bank ++ page) ++ step := by
  apply BitVec.eq_of_getLsbD_eq
  intro i hi
  simp only [assembleTarget, BitVec.getLsbD_or, BitVec.getLsbD_shiftLeft, BitVec.getLsbD_setWidth,
    BitVec.getLsbD_append]
  grind

theorem assembleTarget_lt (bank : BitVec 1) (page : Nibble) (step : Byte) :
    (assembleTarget bank page step).toNat < 0x2000 := by
  rw [assembleTarget_eq_append, toNat_append_eq_mul_add, toNat_append_eq_mul_add, BitVec.toNat_zero]
  have hpage := (bank ++ page).isLt
  have hstep := step.isLt
  omega

/-! ### The shape of a result -/

/-- Every edge class has a shape of rule R23. -/
theorem edgesWf_edgesOf (p : Params) (c : EdgeClass) (address : WordAddr) (pageRec : PageValue) (step : Byte) :
    EdgesWf (edgesOf p c address pageRec step) := by cases c <;> trivial

/-- Every target but a False edge's is assembled (rules R100 to R103). -/
theorem targetsAssembled_edgesOf (p : Params) (c : EdgeClass) (address : WordAddr) (pageRec : PageValue)
    (step : Byte) : TargetsAssembled (edgesOf p c address pageRec step) := by
  unfold TargetsAssembled
  cases c with
  | jp => simp [edgesOf, jpEdges, jpTarget, assembleTarget_lt]
  | jpcc => simp [edgesOf, jpccEdges, jpTarget, assembleTarget_lt]
  | call => simp [edgesOf, callEdges, callTarget, assembleTarget_lt]
  | calz => simp [edgesOf, calzEdges, calzTarget, assembleTarget_lt]
  | _ => simp [edgesOf, indirectEdges, retEdges]

/-- An address operand is an 8-bit step (rule R65). -/
def StepSized (op : Option Operand) : Prop := ∀ a, op = some (.address a) → a.toNat < 0x100

theorem stepSized_addrStep (step : Byte) : StepSized (some (addrStep step)) := by
  rintro a ⟨⟩
  rw [BitVec.toNat_setWidth_of_le (by decide)]
  exact step.isLt

theorem selOperand_ne_address (r : Sel) (a : BitVec 16) : selOperand r ≠ .address a := by cases r <;> nofun

/-- A result with the edges of some edge class is shaped as the rules say if its operands and its comment are. -/
theorem resultWf_of_edgeClass {m : Mnemonic} {op1 op2 : Option Operand} {comment : Option Comment} (c : EdgeClass)
    (address : WordAddr) (pageRec : PageValue) (step : Byte) (horder : op2.isSome → op1.isSome)
    (hcomment : comment.isSome ↔ m = .RETS) (h1 : StepSized op1) (h2 : StepSized op2) :
    ResultWf ⟨m, op1, op2, edgesOf Config.params c address pageRec step, comment⟩ where
  operandsInOrder := horder
  edgesWf := edgesWf_edgesOf _ c address pageRec step
  targets := targetsAssembled_edgesOf _ c address pageRec step
  commentOnRets := hcomment
  stepOperand a h := h.elim (h1 a) (h2 a)

/-- The conditional jumps differ in their condition alone (rules R106 to R109). -/
theorem jpcc_resultWf (c : CondName) (address : WordAddr) (pageRec : PageValue) (step : Byte) :
    ResultWf ⟨.JP, some (.conditionName c), some (addrStep step), jpccEdges address pageRec step, none⟩ :=
  resultWf_of_edgeClass .jpcc address pageRec step (fun _ => rfl) (by decide) nofun (stepSized_addrStep step)

/-- Every instruction outputs a result shaped as the rules say: the branch rows by their edge class, all others without
edges and without an address operand. -/
theorem outputOf_resultWf (i : Instr) (address : WordAddr) (pageRec : PageValue) :
    ResultWf (outputOf i address pageRec) := by
  cases i with
  | jp step =>
    exact resultWf_of_edgeClass .jp address pageRec step nofun (by decide) (stepSized_addrStep step) nofun
  | jpC step => exact jpcc_resultWf .C address pageRec step
  | jpNC step => exact jpcc_resultWf .NC address pageRec step
  | jpZ step => exact jpcc_resultWf .Z address pageRec step
  | jpNZ step => exact jpcc_resultWf .NZ address pageRec step
  | call step =>
    exact resultWf_of_edgeClass .call address pageRec step nofun (by decide) (stepSized_addrStep step) nofun
  | calz step =>
    exact resultWf_of_edgeClass .calz address pageRec step nofun (by decide) (stepSized_addrStep step) nofun
  | jpba => exact resultWf_of_edgeClass .indirect address pageRec 0 nofun (by decide) nofun nofun
  | ret => exact resultWf_of_edgeClass .ret address pageRec 0 nofun (by decide) nofun nofun
  | rets => exact resultWf_of_edgeClass .ret address pageRec 0 nofun (by decide) nofun nofun
  | retd l => exact resultWf_of_edgeClass .ret address pageRec l nofun (by decide) nofun nofun
  | _ =>
    refine resultWf_of_edgeClass .none address pageRec 0 (by simp) (by decide) ?_ ?_ <;>
      simp [StepSized, selOperand_ne_address, immNibble, immPage, immByte, memName]

theorem decodedWord_resultWf (w : Word12) (address : WordAddr) (pageRec : PageValue) :
    ResultWf (decodedWord RULES Config.params w address pageRec) :=
  outputOf_decodeWord w address pageRec ▸ outputOf_resultWf _ _ _

/-- Where the block answers there is a word, and the answer is that word's output. -/
theorem decodeCall_ok {bytes : List Byte} {address : WordAddr} {pageRec : PageValue} {d : DecodedInstruction}
    (h : decodeCall bytes address pageRec = .ok d) :
    ∃ w, wordOf bytes = .ok w ∧ d = decodedWord RULES Config.params w address pageRec := by
  have hne : bytes ≠ [] := by
    rintro rfl
    cases h
  obtain ⟨w, hw⟩ := wordOf_ok_of_ne_nil hne
  rw [decodeCall_of_wordOf hw] at h
  exact ⟨w, hw, (Except.ok.inj h).symm⟩

theorem decodeCall_resultWf {bytes : List Byte} {address : WordAddr} {pageRec : PageValue} {d : DecodedInstruction}
    (h : decodeCall bytes address pageRec = .ok d) : ResultWf d := by
  obtain ⟨w, -, rfl⟩ := decodeCall_ok h
  exact decodedWord_resultWf w address pageRec

/-! ### Which inputs a result depends on -/

theorem append_inj {m n : Nat} {x x' : BitVec m} {y y' : BitVec n} (h : x ++ y = x' ++ y') : x = x' ∧ y = y' := by
  have hhigh := congrArg (BitVec.extractLsb' n m) h
  have hlow := congrArg (BitVec.extractLsb' 0 n) h
  simpa [BitVec.extractLsb'_append_eq_of_le, BitVec.extractLsb'_append_eq_of_add_le] using And.intro hhigh hlow

theorem target_eq_iff {x x' : PageValue} {step : Byte} : 0#19 ++ x ++ step = 0#19 ++ x' ++ step ↔ x = x' :=
  ⟨fun h => (append_inj (append_inj h).1).2, fun h => by rw [h]⟩

/-- `CallTarget` shows address bits 12:8 (rule R101). -/
theorem callTarget_params_eq_append (address : WordAddr) (pageRec : PageValue) (step : Byte) :
    callTarget Config.params.callPageSource address pageRec step = 0#19 ++ address.extractLsb' 8 5 ++ step := by
  rw [params_callPageSource, callTarget, assembleTarget_eq_append,
    BitVec.extractLsb'_append_extractLsb'_eq_extractLsb' (by decide)]

/-- `CalzTarget` shows address bit 12 (rule R102). -/
theorem calzTarget_params_eq_append (address : WordAddr) (step : Byte) :
    calzTarget Config.params.calzPage address step = 0#19 ++ (address.extractLsb' 12 1 ++ 0#4) ++ step := by
  rw [params_calzPage, calzTarget, assembleTarget_eq_append]
  rfl

/-- Two calls agree on what the targets of an edge class are made from (rules R100 to R103). -/
def SameTargets (a a' : WordAddr) (p p' : PageValue) : EdgeClass → Prop
  | .jp => p = p'
  | .jpcc => p = p' ∧ a = a'
  | .call => a.extractLsb' 8 5 = a'.extractLsb' 8 5
  | .calz => a.extractLsb' 12 1 = a'.extractLsb' 12 1
  | .none | .indirect | .ret => True

theorem edgesOf_eq_iff (c : EdgeClass) (a a' : WordAddr) (p p' : PageValue) (step : Byte) :
    edgesOf Config.params c a p step = edgesOf Config.params c a' p' step ↔ SameTargets a a' p p' c := by
  cases c with
  | jp => simp [edgesOf, jpEdges_eq, SameTargets, target_eq_iff]
  | jpcc => simp [edgesOf, jpccEdges_eq, SameTargets, target_eq_iff]
  | call => simp [edgesOf, callEdges, callTarget_params_eq_append, SameTargets, target_eq_iff]
  | calz =>
    simp only [edgesOf, calzEdges, calzTarget_params_eq_append, SameTargets, List.cons.injEq, and_true,
      BranchEdge.mk.injEq, true_and, Option.some.injEq]
    exact ⟨fun h => (append_inj (target_eq_iff.mp h)).1, fun h => by rw [h]⟩
  | _ => simp [edgesOf, SameTargets]

/-- Of a word's result only the edges read address and page record (rules R17, R26). -/
theorem decodedWord_eq_iff (w : Word12) (a a' : WordAddr) (p p' : PageValue) :
    decodedWord RULES Config.params w a p = decodedWord RULES Config.params w a' p' ↔
      SameTargets a a' p p' (edgeClassOf w) := by
  rw [← edgesOf_eq_iff _ _ _ _ _ (combinedLow8 w), ← decodedWord_branchEdges, ← decodedWord_branchEdges]
  refine ⟨congrArg _, fun h => ?_⟩
  unfold decodedWord at *
  cases hrow : decodeRow RULES w with
  | none => rfl
  | some row =>
    simp only [hrow, rowAction] at h ⊢
    rw [h]

theorem edgeClassOf_eq_jp_iff (w : Word12) : edgeClassOf w = .jp ↔ upper w = 0x0 := by
  unfold edgeClassOf
  split_ifs <;> simp_all

theorem edgeClassOf_eq_call_iff (w : Word12) : edgeClassOf w = .call ↔ upper w = 0x4 := by grind [edgeClassOf]

theorem edgeClassOf_eq_calz_iff (w : Word12) : edgeClassOf w = .calz ↔ upper w = 0x5 := by grind [edgeClassOf]

end Sys2Proof.Machine
end

section
/-! SUPPORT. The statements on the shape and the inputs of a result, settled from the laws above. -/

namespace Sys2Proof.Proofs

open Sys2Proof Sys2Proof.Machine Sys2Proof.Safety

/-- Settles O43: an instruction records its output, which is well-shaped. -/
theorem noInstructionChangesMoreThanTheResult : Obligations.NoInstructionChangesMoreThanTheResult :=
  fun i s => ⟨outputOf i s.address s.pageRec, exec_eq i s, outputOf_resultWf i s.address s.pageRec⟩

/-- Settles O41: the index is empty and there is no result. -/
theorem resetKeepsTheInvariant : Obligations.ResetKeepsTheInvariant := by
  refine ⟨reset_indexWf, fun d hd => ?_⟩
  rw [State.reset] at hd
  cases hd

/-- Settles O42: a step that answers records a well-shaped result, and at most inserts into the index. -/
theorem everyStepKeepsTheInvariant : Obligations.EveryStepKeepsTheInvariant := by
  intro s t hinv h
  obtain ⟨d, hd, rfl⟩ := step_next h
  refine ⟨State.answer_indexWf d hinv.indexWf, fun d' hd' => ?_⟩
  rw [State.answer_result, Option.some.injEq] at hd'
  exact hd' ▸ decodeCall_resultWf hd

/-- Settles O40: a result reads address and page record through the targets of its edge class, which the upper nibble
names where it has any. -/
theorem onlyJumpsReadThePageAndOnlyBranchesTheAddress :
    Obligations.OnlyJumpsReadThePageAndOnlyBranchesTheAddress := by
  intro bytes w a a' p p' d d' hw hd hd'
  rw [decodeCall_of_wordOf hw] at hd hd'
  obtain rfl := Except.ok.inj hd
  obtain rfl := Except.ok.inj hd'
  have hpage : upper w ∈ ([0x0, 0x2, 0x3, 0x6, 0x7] : List Nibble) ↔
      edgeClassOf w = .jp ∨ edgeClassOf w = .jpcc := by
    rw [edgeClassOf_eq_jp_iff, edgeClassOf_eq_jpcc_iff]
    simp
  have hjpcc : upper w ∈ ([0x2, 0x3, 0x6, 0x7] : List Nibble) ↔ edgeClassOf w = .jpcc := by
    rw [edgeClassOf_eq_jpcc_iff]
    simp
  have haddress : upper w ∈ ([0x2, 0x3, 0x4, 0x5, 0x6, 0x7] : List Nibble) ↔
      edgeClassOf w = .jpcc ∨ edgeClassOf w = .call ∨ edgeClassOf w = .calz := by
    rw [edgeClassOf_eq_jpcc_iff, edgeClassOf_eq_call_iff, edgeClassOf_eq_calz_iff]
    simp only [List.mem_cons, List.not_mem_nil, or_false]
    tauto
  simp only [decodedWord_eq_iff]
  rw [hpage, hjpcc, haddress, ← edgeClassOf_eq_call_iff, ← edgeClassOf_eq_calz_iff]
  cases edgeClassOf w <;> simp +contextual [SameTargets]

end Sys2Proof.Proofs
end

section
/-! SUPPORT. The ports (10_state.md rule R39): each code is read back as what it stands for. -/

namespace Sys2Proof.Machine

open Sys2Proof.Safety

theorem mnemonicOrder_getElem?_code (m : Mnemonic) : mnemonicOrder[(mnemonicCode m).toNat]? = some m := by
  cases m <;> rfl

theorem readReg_regCode (n : RegName) : readReg (regCode n) = some n := by
  cases n with
  | M n => revert n; decide
  | _ => rfl

theorem readOperand_operandPort (free : OperandPort) (op : Option Operand) :
    readOperand (operandPort free op) = some op := by
  cases op with
  | none => rfl
  | some op =>
    cases op with
    | immediate v =>
      have hlt : v.toNat % 65536 < 256 := by omega
      simp [readOperand, operandPort, hlt]
    | address a => rfl
    | conditionName c => cases c <;> rfl
    | register n => simp [readOperand, operandPort, readReg_regCode]
    | registerIndirect n => cases n <;> rfl

theorem readEdge_edgePort (free : EdgePort) (e : BranchEdge) : readEdge (edgePort free (some e)) = some e := by
  obtain ⟨kind, target⟩ := e
  cases kind <;> cases target <;> rfl

/-- Two edge slots are enough (rule R23). -/
theorem length_edgesOf_le_two (p : Params) (c : EdgeClass) (address : WordAddr) (pageRec : PageValue) (step : Byte) :
    (edgesOf p c address pageRec step).length ≤ 2 := by
  cases c <;> simp [edgesOf, jpEdges, jpccEdges, callEdges, calzEdges, indirectEdges, retEdges]

theorem readEdges_resultPorts (free : PortOut) {d : DecodedInstruction} (h : d.branchEdges.length ≤ 2) :
    readEdges (resultPorts free d) = some d.branchEdges := by
  unfold readEdges resultPorts
  match d.branchEdges, h with
  | [], _ => rfl
  | [e], _ => simp [readEdge_edgePort]
  | [e, e'], _ => simp [readEdge_edgePort]

theorem readComment (comment : Option Comment) :
    (if comment.isSome then some Comment.skipOnReturn else none) = comment := by
  rcases comment with _ | ⟨⟨⟩⟩ <;> rfl

/-- A result with at most two edges is read back from its ports, whatever the free bits are. -/
theorem readPorts_resultPorts (free : PortOut) {d : DecodedInstruction} (h : d.branchEdges.length ≤ 2) :
    readPorts (resultPorts free d) = some d := by
  have hedges := readEdges_resultPorts free h
  have hop1 : readOperand (resultPorts free d).op1 = some d.operand1 := readOperand_operandPort _ _
  have hop2 : readOperand (resultPorts free d).op2 = some d.operand2 := readOperand_operandPort _ _
  have hmnemonic : mnemonicOrder[(resultPorts free d).mnemonic.toNat]? = some d.mnemonic :=
    mnemonicOrder_getElem?_code _
  have hcomment : (if (resultPorts free d).comment then some Comment.skipOnReturn else none) = d.comment :=
    readComment _
  have hvalid : (resultPorts free d).invalidInput = false := rfl
  simp only [readPorts, hvalid, hmnemonic, hop1, hop2, hedges, hcomment]
  rfl

/-- The word on a bus is that of the bytes the bus carries. -/
theorem portWord_of_carries {pin : PortIn} {bytes : List Byte} {address : WordAddr} {pageRec : PageValue} {w : Word12}
    (h : Carries pin bytes address pageRec) (hw : wordOf bytes = .ok w) : portWord pin = some w := by
  obtain ⟨-, -, hbus⟩ := h
  match bytes, hbus with
  | [b], ⟨hn, hb⟩ =>
    rw [wordOf_singleton] at hw
    have hword : b.setWidth 12 = 0x0#4 ++ b := by
      apply BitVec.eq_of_toNat_eq
      rw [toNat_append_eq_mul_add, BitVec.toNat_setWidth_of_le (by decide)]
      simp
    simp [portWord, hn, hb, hword, Except.ok.inj hw]
  | b :: b' :: rest, ⟨hn, hc⟩ =>
    rw [wordOf_eq_of_containerOf hc] at hw
    simp [portWord, hn, Except.ok.inj hw]

theorem portBlock_of_carries {pin : PortIn} {bytes : List Byte} {address : WordAddr} {pageRec : PageValue}
    {w : Word12} (h : Carries pin bytes address pageRec) (hw : wordOf bytes = .ok w) : portBlock pin =
      resultPorts (Config.freePortOut pin) (decodedWord RULES Config.params w address pageRec) := by
  obtain ⟨rfl, rfl, -⟩ := id h
  simp only [portBlock, portWord_of_carries h hw]

end Sys2Proof.Machine
end

section
/-! SUPPORT. The statement on the ports, settled from the laws above. -/

namespace Sys2Proof.Proofs

open Sys2Proof Sys2Proof.Machine Sys2Proof.Safety

/-- Settles O54: the ports hold the codes of the block's result, which has at most two edges. -/
theorem portsCarryTheResult : Obligations.PortsCarryTheResult := by
  intro pin bytes a p hcarries
  split
  case h_1 d hd =>
    obtain ⟨w, hw, rfl⟩ := decodeCall_ok hd
    rw [portBlock_of_carries hcarries hw]
    refine ⟨rfl, readPorts_resultPorts _ ?_⟩
    rw [decodedWord_branchEdges]
    exact length_edgesOf_le_two _ _ _ _ _
  case h_2 e he =>
    obtain rfl := decodeCall_error he
    exact portBlock_of_carries_nil hcarries

end Sys2Proof.Proofs
end

section
/-! SUPPORT. The environment's side of a call: what is left after a second call, what an order of the sweep can change,
and which page value a booted image gives a jump (10_state.md rules R29 to R33; 70_reset_and_hazards.md rules R293,
R296). -/

namespace Sys2Proof.Machine

open Sys2Proof.Safety Sys2Proof.Proofs

/-! ### Calls and the index -/

/-- Inserting twice at one address enters one record, whatever the order of the records (rule R31). -/
theorem insertRecord_insertRecord (a : WordAddr) (v : PageValue) :
    ∀ ix : List PageRecord, insertRecord a v (insertRecord a v ix) = insertRecord a v ix
  | [] => by simp [insertRecord]
  | r :: rest => by
    have ih := insertRecord_insertRecord a v rest
    by_cases hlt : a.toNat < r.address.toNat
    · simp [insertRecord, hlt]
    · by_cases heq : a = r.address
      · simp [insertRecord, heq]
      · simp [insertRecord, hlt, heq, ih]

theorem boundPageRec_building {s : State} (h : s.phase = .building) : boundPageRec s = s.pageRec := by
  simp [boundPageRec, h]

/-- The page value of an output is the payload of a `PSET` alone (70_reset_and_hazards.md rule R293). -/
theorem psetPayload_PSET (p : PageValue) (op2 : Option Operand) (edges : List BranchEdge) (c : Option Comment) :
    psetPayload ⟨.PSET, some (.immediate (p.setWidth 8)), op2, edges, c⟩ = some p := psetPayload_immPage p edges c

theorem psetPayload_of_ne {d : DecodedInstruction} (h : d.mnemonic ≠ .PSET) : psetPayload d = none := by
  unfold psetPayload
  split
  · exact absurd ‹_› h
  · rfl

/-- A second call finds `page_rec` bound as the first left it (rule R29). -/
theorem boundPageRec_answer (s : State) (d : DecodedInstruction) : boundPageRec (s.answer d) = boundPageRec s := by
  cases hphase : s.phase with
  | building => exact boundPageRec_building (s := s.answer d) hphase
  | finished =>
    rw [boundPageRec_finished hphase, boundPageRec_finished (s := s.answer d) hphase,
      State.answer_index_finished d hphase]
    rfl

/-- A second call finds its record entered (rule R31). -/
theorem State.answer_answer_index (s : State) (d : DecodedInstruction) :
    ((s.answer d).answer d).index = (s.answer d).index := by
  cases hphase : s.phase with
  | finished => exact State.answer_index_finished (s := s.answer d) d hphase
  | building =>
    cases hd : psetPayload d with
    | none => exact State.answer_index_of_no_payload hd
    | some v =>
      rw [State.answer_index_of_payload (s := s.answer d) hphase hd, State.answer_index_of_payload hphase hd]
      exact insertRecord_insertRecord s.address v s.index

theorem State.answer_eq (s : State) (d : DecodedInstruction) : s.answer d =
    { s with pageRec := boundPageRec s, result := some d, index := (s.answer d).index } := rfl

theorem State.answer_answer (s : State) (d : DecodedInstruction) : (s.answer d).answer d = s.answer d := by
  rw [State.answer_eq (s.answer d), boundPageRec_answer, State.answer_answer_index]
  rfl

/-- A decoded `PSET` at an address that has a record enters none (rules R31, R33). -/
theorem State.answer_index_of_record {s : State} (d : DecodedInstruction) (hwf : IndexWf s.index)
    (h : ∃ r ∈ s.index, r.address = s.address) : (s.answer d).index = s.index := by
  obtain ⟨r, hr, haddress⟩ := h
  cases hphase : s.phase with
  | finished => exact State.answer_index_finished d hphase
  | building =>
    cases hd : psetPayload d with
    | none => exact State.answer_index_of_no_payload hd
    | some v => rw [State.answer_index_of_payload hphase hd, ← haddress, insertRecord_of_mem hwf hr]

/-! ### The booted index -/

/-- A canonical index is determined by its records (rule R30). -/
theorem IndexWf.eq_of_mem_iff {ix ix' : List PageRecord} (h : IndexWf ix) (h' : IndexWf ix')
    (hmem : ∀ r, r ∈ ix ↔ r ∈ ix') : ix = ix' := by
  have hnodup {ix : List PageRecord} (h : IndexWf ix) : ix.Nodup := h.imp fun hlt heq => by simp [heq] at hlt
  have hperm := (List.perm_ext_iff_of_nodup (hnodup h) (hnodup h')).mpr hmem
  exact hperm.eq_of_pairwise (fun a b _ _ hab hba => absurd hab hba.not_gt) h h'

theorem imageWf_of_perm {image image' : Image} (h : ImageWf image) (hperm : image.Perm image') : ImageWf image' :=
  ⟨(hperm.map Prod.fst).nodup h.1, fun e he => h.2 e (hperm.symm.subset he)⟩

theorem holdsPset_of_perm {image image' : Image} (hperm : image.Perm image') (a : WordAddr) (p : PageValue) :
    HoldsPset image a p ↔ HoldsPset image' a p := by simp [HoldsPset, hperm.mem_iff]

/-- On the index of an image's `PSET`s the query answers the page value that governs the address (rules R32, R296). -/
theorem query_of_pageAt {image : Image} {ix : List PageRecord} {a : WordAddr} {p : PageValue} (hwf : IndexWf ix)
    (hmem : ∀ r, r ∈ ix ↔ HoldsPset image r.address r.pageValue) (h : PageAt image a p) :
    (query ix a).pageValue = p := by
  rcases h with ⟨a', hpset, hle, hmax⟩ | ⟨rfl, hnone⟩
  · have hrecord : (⟨a', p⟩ : PageRecord) ∈ ix := (hmem ⟨a', p⟩).mpr hpset
    obtain ⟨hquery, hquery_le, hquery_max⟩ := query_governs ⟨_, hrecord, hle⟩
    have hle' := hmax _ _ ((hmem _).mp hquery) hquery_le
    have haddress := BitVec.eq_of_toNat_eq (hle'.antisymm (hquery_max _ hrecord hle))
    rw [hwf.eq_of_address_eq hquery hrecord haddress]
  · rw [query_eq_default fun r hr => hnone _ _ ((hmem r).mp hr)]
    rfl

/-! ### Jumps -/

/-- The conditional jump of a condition (rules R106 to R109). -/
def jpccOf : CondName → Byte → Instr
  | .C => .jpC
  | .NC => .jpNC
  | .Z => .jpZ
  | .NZ => .jpNZ

theorem decodeWord_of_upper_jp {w : Word12} (h : upper w = 0x0) : decodeWord w = .jp (combinedLow8 w) := by
  obtain ⟨u, b, rfl⟩ : ∃ u b, w = u ++ b := ⟨_, _, (upper_append_combinedLow8 w).symm⟩
  rw [upper_append] at h
  rw [h, combinedLow8_append]
  exact decodeWord_jp b

theorem decodeWord_of_upper_jpcc {w : Word12} {c : CondName}
    (h : (upper w, c) ∈ ([(0x2, .C), (0x3, .NC), (0x6, .Z), (0x7, .NZ)] : List (Nibble × CondName))) :
    decodeWord w = jpccOf c (combinedLow8 w) := by
  obtain ⟨-, -, hC, hNC, hZ, hNZ, -⟩ := pageSetAndJumpRowsDecodeAndRun
  obtain ⟨u, b, rfl⟩ : ∃ u b, w = u ++ b := ⟨_, _, (upper_append_combinedLow8 w).symm⟩
  rw [upper_append] at h
  rw [combinedLow8_append]
  simp only [List.mem_cons, Prod.mk.injEq, List.not_mem_nil, or_false] at h
  rcases h with ⟨rfl, rfl⟩ | ⟨rfl, rfl⟩ | ⟨rfl, rfl⟩ | ⟨rfl, rfl⟩
  exacts [(hC b).1, (hNC b).1, (hZ b).1, (hNZ b).1]

theorem outputOf_jp (step : Byte) (address : WordAddr) (pageRec : PageValue) : outputOf (.jp step) address pageRec =
    ⟨.JP, some (.address (step.setWidth 16)), none, [⟨.unconditional, some (0#19 ++ pageRec ++ step)⟩], none⟩ := by
  rw [← jpEdges_eq]
  rfl

theorem outputOf_jpccOf (c : CondName) (step : Byte) (address : WordAddr) (pageRec : PageValue) :
    outputOf (jpccOf c step) address pageRec =
      ⟨.JP, some (.conditionName c), some (.address (step.setWidth 16)),
        [⟨.trueBranch, some (0#19 ++ pageRec ++ step)⟩, ⟨.falseBranch, some (address + 1)⟩], none⟩ := by
  rw [← jpccEdges_eq]
  cases c <;> rfl

/-- After the pre-pass a call reads the page value that governs its address in the image. -/
theorem decodeSrc_of_boot {image : Image} {s t : State} {bytes : List Byte} {a : WordAddr} {w : Word12}
    {p : PageValue} (himage : ImageWf image) (hboot : boot image s = .next t) (hw : wordOf bytes = .ok w)
    (hp : PageAt image a p) :
    ∃ u, decodeSrc bytes a t = .next u ∧ u.result = some (outputOf (decodeWord w) a p) := by
  obtain ⟨t', ht', hphase, hwf, hmem⟩ := boot_spec himage s
  obtain rfl : t' = t := by simpa [hboot] using ht'.symm
  have hbound : boundPageRec (t'.present bytes a) = p := by
    rw [boundPageRec_finished (s := t'.present bytes a) hphase]
    exact query_of_pageAt hwf hmem hp
  have hstep := step_of_decode (s := t'.present bytes a) (decode_of_wordOf hw)
  rw [hbound] at hstep
  exact ⟨_, (decodeSrc_finished hphase).trans hstep, rfl⟩

end Sys2Proof.Machine
end

section
/-! SUPPORT. The statements on calls, the pre-pass and the jumps after it, settled from the laws above. -/

namespace Sys2Proof.Proofs

open Sys2Proof Sys2Proof.Machine Sys2Proof.Safety

/-- Settles O1: no record governs any address of the empty index. -/
theorem resetHasAnEmptyIndexAndTheDefaultPage : Obligations.ResetHasAnEmptyIndexAndTheDefaultPage := by
  refine ⟨rfl, rfl, fun x => ?_⟩
  rw [query_eq_default (ix := State.reset.index) (List.forall_mem_nil _)]
  rfl

/-- Settles O2, clause by clause from the definitions of binding and reaction. -/
theorem stepRunsTheDecodedInstruction : Obligations.StepRunsTheDecodedInstruction := by
  refine ⟨fun s i h => ?_, fun s h => ?_, fun s h => ?_, fun t p op2 edges c hphase hresult => ?_,
    fun t d hresult hne => ?_, fun t h => ?_⟩
  · rw [step, h]
  · rw [State.bindPageRec, boundPageRec_building h]
  · rw [State.bindPageRec, boundPageRec_finished h]
  · have hindex : indexAfterCall t = insertRecord t.address p t.index := by
      simp only [indexAfterCall, hphase, hresult, Option.bind_some, psetPayload_PSET]
    rw [afterCall, State.recordPset, hindex]
  · have hindex : indexAfterCall t = t.index := by
      simp [indexAfterCall, hresult, psetPayload_of_ne hne]
    rw [afterCall, State.recordPset, hindex]
  · rw [afterCall, State.recordPset, indexAfterCall_finished h]

/-- Settles O16: the one word of a byte is that of `JP s`, which sets no page. -/
theorem oneByteIsAlwaysAnUnconditionalJump : Obligations.OneByteIsAlwaysAnUnconditionalJump := by
  intro s v hs
  have hdecode : decode s.bytes = .ok (.jp v) := by
    rw [hs, decode_of_wordOf (wordOf_singleton v), decodeWord_jp]
  rw [step_of_decode hdecode, State.answer_of_no_payload (psetPayload_outputOf _ _ _), outputOf_jp]

/-- Settles O19: the second call finds the same inputs, so it gives the output that the first recorded. -/
theorem callingTwiceChangesNothingMore : Obligations.CallingTwiceChangesNothingMore := by
  intro s t h
  obtain ⟨d, hd, rfl⟩ := step_next h
  rw [step_of_decodeCall (s := s.answer d) (by rw [boundPageRec_answer]; exact hd), State.answer_answer]

/-- Settles O20: a step is the three-input block at the bound page value, recorded. -/
theorem tableDrivenBlockEqualsTheMachine : Obligations.TableDrivenBlockEqualsTheMachine := by
  intro s
  split
  case h_1 d hd => exact ⟨s.answer d, step_of_decodeCall hd, rfl, rfl, rfl, rfl⟩
  case h_2 e he => exact step_of_nil (decodeCall_error he)

/-- Settles O47: a call on a finished index inserts nothing and binds the queried page value. -/
theorem finishedIndexIsReadOnly : Obligations.FinishedIndexIsReadOnly := by
  intro s t hs h
  obtain ⟨d, -, rfl⟩ := step_next h
  exact ⟨State.answer_index_finished d hs, hs, boundPageRec_finished hs⟩

/-- Settles O53: an insertion at an address that has a record changes nothing. -/
theorem indexDoesNotTrackAChangedImage : Obligations.IndexDoesNotTrackAChangedImage := by
  intro s t a bytes hwf hrecord h
  obtain ⟨d, -, rfl⟩ := step_next h
  exact State.answer_index_of_record (s := s.present bytes a) d hwf hrecord

/-- Settles O49: both indexes are canonical and hold the records of the same `PSET`s. -/
theorem bootOrderDoesNotMatter : Obligations.BootOrderDoesNotMatter := by
  intro image image' s s' t t' himage hperm ht ht'
  obtain ⟨u, hu, -, hwf, hmem⟩ := boot_spec himage s
  obtain ⟨u', hu', -, hwf', hmem'⟩ := boot_spec (imageWf_of_perm himage hperm) s'
  obtain rfl : u = t := by simpa [ht] using hu.symm
  obtain rfl : u' = t' := by simpa [ht'] using hu'.symm
  exact hwf.eq_of_mem_iff hwf' fun r => by rw [hmem, hmem', holdsPset_of_perm hperm]

/-- Settles O50: the call after the pre-pass reads the governing page value, and the upper nibble names the jump. -/
theorem jumpAfterBootFollowsTheNearestPageSettingBelow :
    Obligations.JumpAfterBootFollowsTheNearestPageSettingBelow := by
  intro image s t bytes a w p himage hboot hw hp
  obtain ⟨u, hu, hresult⟩ := decodeSrc_of_boot himage hboot hw hp
  refine ⟨fun hupper => ⟨u, hu, ?_⟩, fun c hupper => ⟨u, hu, ?_⟩⟩
  · rw [hresult, decodeWord_of_upper_jp hupper, outputOf_jp]
  · rw [hresult, decodeWord_of_upper_jpcc hupper, outputOf_jpccOf]

/-- Settles O52: the refusal is the two-argument call's own, and no step refuses. -/
theorem twoArgumentCallNeedsAFinishedIndex : Obligations.TwoArgumentCallNeedsAFinishedIndex :=
  ⟨fun s bytes a hs => by rw [decodeSrc, hs], step_ne_refused⟩

end Sys2Proof.Proofs
end

section
/-! SUPPORT. The doubling at the display boundary (10_state.md rule R36, 30_encoding.md rule R91), and the statements on
display and on sample words, settled from the laws above. -/

namespace Sys2Proof.Machine

/-- A byte-address has the bit that doubling needs (rule R36). -/
theorem displayAddress_toNat (a : WordAddr) : (displayAddress a).toNat = 2 * a.toNat := by
  have ha := a.isLt
  rw [displayAddress, BitVec.toNat_shiftLeft, BitVec.toNat_setWidth_of_le (by decide), Nat.shiftLeft_eq]
  omega

theorem nextAddr_toNat {a : WordAddr} (h : a.toNat + 1 < 2 ^ 32) : (nextAddr a).toNat = a.toNat + 1 := by
  rw [nextAddr, BitVec.toNat_add]
  exact Nat.mod_eq_of_lt h

end Sys2Proof.Machine

namespace Sys2Proof.Proofs

open Sys2Proof Sys2Proof.Machine

/-- Settles O3: each word is the encoding of a well-formed instruction. -/
theorem sampleWordsDecodeAsTheirEncodingsSay : Obligations.SampleWordsDecodeAsTheirEncodingsSay :=
  ⟨decodeWord_encode (i := .jp 0x23) rfl, decodeWord_encode (i := .pset 0x01) rfl, decodeWord_encode (i := .nop5) rfl,
    decodeWord_encode (i := .cpXH 0x5) rfl, decodeWord_encode (i := .ldpxMX 0xF) rfl,
    decodeWord_encode (i := .rstF 0xC) rfl, decodeWord_encode (i := .ldRSPH .b) rfl,
    decodeWord_encode (i := .sbcRQ .my .a) rfl, decodeWord_encode (i := .notR .b) rfl,
    decodeWord_encode (i := .unknown 0xED0) rfl⟩

/-- Settles O56: doubling is a shift by one into a bit of its own, target by target. -/
theorem displayDoublesEveryAddress : Obligations.DisplayDoublesEveryAddress := by
  refine ⟨fun a => ⟨displayAddress_toNat a, fun h => ?_⟩, fun d => List.map_congr_left fun e _ => ?_, fun _ => rfl,
    fun _ => rfl⟩
  · rw [displayAddress_toNat, nextAddr_toNat h]
    ring
  · cases htarget : e.target with
    | none => rfl
    | some t => exact congrArg some (displayAddress_toNat t)

/-- Settles O57: the tokens of each of the eight shapes of a result, and the spellings one by one. -/
theorem displayShowsNamesAsSymbols : Obligations.DisplayShowsNamesAsSymbols :=
  ⟨fun _ _ _ _ _ => ⟨rfl, rfl, rfl, rfl, rfl, rfl, rfl, rfl⟩, rfl, rfl, rfl, rfl, rfl, rfl⟩

end Sys2Proof.Proofs
end
